-- ==== Sys2Proof/Word.lean ====
section
/-! DEFINITION. The word types of the engine: every register value is an unsigned number of its stated
width, bit 0 least significant, arithmetic modulo 2^N (00_scope.md R9, R10). -/

namespace Sys2Proof

/-- One wire or one-bit register. -/
abbrev Bit := BitVec 1

/-- The checksum field and each byte of the data field (R9). -/
abbrev Byte := BitVec 8

/-- A raw humidity or temperature value (R9). -/
abbrev Half := BitVec 16

/-- The data field, the wait counter and the busy-wait counter (R9). -/
abbrev Word := BitVec 32

/-- The state word `st[3:0]` (30_encoding.md R81). -/
abbrev StateCode := BitVec 4

end Sys2Proof
end

