-- ==== Sys2Proof/Syntax.lean ====
section
/-! DEFINITION. The engine's instructions, which are the states of its finite-state machine
(30_encoding.md R80, R81), and the enumerations of its ports (R84, R86). -/

namespace Sys2Proof

/-- One constructor per row of `opcode_table.json`. No state word carries an operand field (R81). -/
inductive Instr where
  /-- `0x0`, re-assert the idle state (R180). -/
  | arm
  /-- `0x1`, the inter-sample interval (R181). -/
  | interWait
  /-- `0x2`, re-assert High and begin the start hold (R110). -/
  | startHi
  /-- `0x3`, the start-signal hold (R111). -/
  | startWait
  /-- `0x4`, drive Low (R112). -/
  | startLo
  /-- `0x5`, release the line (R113). -/
  | release
  /-- `0x6`, the response wait (R114). -/
  | respWait
  /-- `0x7`, the presence check (R130). -/
  | presence
  /-- `0x8`, busy-wait while High (R131). -/
  | waitHi
  /-- `0x9`, busy-wait while Low (R132). -/
  | waitLo
  /-- `0xA`, the settle delay (R133). -/
  | bitWait
  /-- `0xB`, sample one bit (R134). -/
  | sample
  /-- `0xC`, checksum validator and value derivation (R160). -/
  | check
  /-- `0xD`, deliver the Reading (R167). -/
  | report
  /-- `0xE`, terminal after cancellation (R183). -/
  | cancelled
  /-- `0xF`, the reserved code (R184). -/
  | reservedF
deriving DecidableEq, Repr

/-- Logic Level (00_scope.md R14). -/
inductive Level where
  | low
  | high
deriving DecidableEq, Repr

/-- Pin Direction (R14). -/
inductive PinDir where
  | input
  | output
deriving DecidableEq, Repr

/-- Pull-Resistor Mode (R14). -/
inductive PullMode where
  | none
  | pullUp
  | pullDown
deriving DecidableEq, Repr

/-- The outcome of a poller cycle (30_encoding.md R86). -/
inductive Status where
  | absent
  | present
  | checksumMismatch
  | timeout
deriving DecidableEq, Repr

end Sys2Proof
end

