-- ==== Sys2Proof/Config.lean ====
section
/-! DEFINITION. What an instance of the engine fixes (the parameters of 00_scope.md R7), and the free
values: the input-port levels, on which the spec puts no law (10_state.md R42). -/

namespace Sys2Proof

/-- The implementation parameters of R7. They are arguments of the model, not state of the engine
(10_state.md R23); `Machine.State` carries them as data that no step writes (log entry 1). -/
structure Params where
  /-- `F_CLK`, clock frequency in Hz. OPEN; no rule of the engine reads it (93 I6). DESIGN CHOICE (log
  entry 16): a whole number of Hz, where R7 gives no number type. -/
  fClk : Nat
  /-- `UNIT_CYCLES`, clock cycles in one time unit. OPEN. -/
  unitCycles : Nat
  /-- `T_INTER`, inter-sample interval in units. -/
  tInter : Nat
  /-- `T_START`, start-signal High hold in units. -/
  tStart : Nat
  /-- `T_RESP`, response wait after release in units. -/
  tResp : Nat
  /-- `T_BIT`, settle delay into a bit pulse in units. -/
  tBit : Nat
  /-- `SYNC_STAGES`, input synchroniser depth in cycles. -/
  syncStages : Nat
  /-- `BUSY_GUARD`, maximum stay-samples per busy-wait, 0 for no guard. -/
  busyGuard : Nat
  /-- `STRICT_CHECKSUM`, 1 if a checksum mismatch is its own outcome. -/
  strictChecksum : Nat
deriving DecidableEq, Repr

/-- The defaults of R7. DESIGN CHOICE (log entry 2): the two OPEN parameters stand at
`UNIT_CYCLES = 1000`, the value of R110's example, and `F_CLK = 1000 * UNIT_CYCLES`, the relation R7 calls
the reference. Only `State.reset` uses this instance. -/
def Params.reference : Params where
  fClk := 1000000
  unitCycles := 1000
  tInter := 3000
  tStart := 25
  tResp := 27
  tBit := 32
  syncStages := 2
  busyGuard := 0
  strictChecksum := 0

/-- The level of `rst_i` in the cycle with this number, where no stimulus is placed: a free draw (R42;
log entry 4). -/
opaque Config.freeRst : Nat → Bit

/-- The level of `cancel_i` in the cycle with this number, where no stimulus is placed: a free draw (R42;
log entry 4). -/
opaque Config.freeCancel : Nat → Bit

/-- The level of `pin_in_i` in the cycle with this number, where no stimulus is placed: a free draw (R42;
log entry 4). -/
opaque Config.freePinIn : Nat → Bit

end Sys2Proof
end

