-- ==== Sys2Proof/WellFormed.lean ====
section
/-! DEFINITION. The checks of well-formedness: a legal instance (00_scope.md R7, launch premise LP2 of
70_reset_and_hazards.md R244) and a byte that carries a state word (30_encoding.md R81, R93).
`Instr` itself needs no check: no state word has an operand field (R81), so every term of `Instr` is an
instruction. -/

namespace Sys2Proof

/-- A wait of `n` units fits the 32-bit wait counter: the product with `UNIT_CYCLES` lies in
1 to 2^32 − 1 (R7). -/
abbrev Params.WaitFits (p : Params) (n : Nat) : Prop :=
  1 ≤ n * p.unitCycles ∧ n * p.unitCycles ≤ 4294967295

/-- The legal ranges of R7. "An instance that breaks any range is refused: the model has no engine for
it." -/
abbrev Params.Legal (p : Params) : Prop :=
  0 < p.fClk ∧ 1 ≤ p.unitCycles ∧
  1 ≤ p.tInter ∧ 1 ≤ p.tStart ∧ 1 ≤ p.tResp ∧ 1 ≤ p.tBit ∧
  p.syncStages ≤ 7 ∧ p.busyGuard ≤ 4294967295 ∧ p.strictChecksum ≤ 1 ∧
  p.WaitFits p.tInter ∧ p.WaitFits p.tStart ∧ p.WaitFits p.tResp ∧ p.WaitFits p.tBit

/-- A byte carries a state word in its low four bits and nothing above them (R81, R93; log entry 9). -/
abbrev CarriesStateWord (b : Byte) : Prop := b.toNat < 16

end Sys2Proof
end

