-- ==== Sys2Proof/Decode.lean ====
section
/-! DEFINITION. The decoder and, after it, the encoder of the state word (30_encoding.md R80, R81, R90), the
opcode table with mask and match, and the codes of the ports (R84, R86). -/

namespace Sys2Proof

/-! ### The decoder -/

/-- The state decoder: total, one rule per code, bit by bit as the table's `encoding` strings have it (R80,
R90). -/
def decodeState (w : StateCode) : Instr :=
  match w.getLsbD 3, w.getLsbD 2, w.getLsbD 1, w.getLsbD 0 with
  | false, false, false, false => .arm
  | false, false, false, true  => .interWait
  | false, false, true,  false => .startHi
  | false, false, true,  true  => .startWait
  | false, true,  false, false => .startLo
  | false, true,  false, true  => .release
  | false, true,  true,  false => .respWait
  | false, true,  true,  true  => .presence
  | true,  false, false, false => .waitHi
  | true,  false, false, true  => .waitLo
  | true,  false, true,  false => .bitWait
  | true,  false, true,  true  => .sample
  | true,  true,  false, false => .check
  | true,  true,  false, true  => .report
  | true,  true,  true,  false => .cancelled
  | true,  true,  true,  true  => .reservedF

/-- Why bytes are no instruction. -/
inductive DecodeError where
  /-- There is no byte to read. -/
  | noWord
  /-- The byte has a bit set above the four bits of a state word (R81, R93). -/
  | notAStateWord (b : Byte)
deriving DecidableEq, Repr

/-- Decoding of bytes, one state word a byte, in its low four bits (log entry 9): total on any bytes,
rejecting by name, and handing back the bytes that are left. -/
def decodeBytes : List Byte → Except DecodeError (Instr × List Byte)
  | [] => .error .noWord
  | b :: rest =>
    if CarriesStateWord b then .ok (decodeState (b.truncate 4), rest)
    else .error (.notAStateWord b)

/-- The bytes of a table word, the first at the lowest place; every bit from `nbits` up is 0. -/
def tableBytes (nbits w : Nat) : List Byte :=
  (List.range (max 1 ((nbits + 7) / 8))).map fun k =>
    BitVec.ofNat 8 ((w % 2 ^ nbits) / 2 ^ (8 * k))

/-- What the decoder reads from an instruction whose bits are `w`, numbered as `opcode_table.json` numbers
them. -/
def decodeTableWord (nbits w : Nat) : Option Instr :=
  match decodeBytes (tableBytes nbits w) with
  | .ok (i, _) => some i
  | .error _ => none

/-! ### The encoder -/

/-- The state code of an instruction (R80). -/
def Instr.code : Instr → StateCode
  | .arm => 0x0#4
  | .interWait => 0x1#4
  | .startHi => 0x2#4
  | .startWait => 0x3#4
  | .startLo => 0x4#4
  | .release => 0x5#4
  | .respWait => 0x6#4
  | .presence => 0x7#4
  | .waitHi => 0x8#4
  | .waitLo => 0x9#4
  | .bitWait => 0xA#4
  | .sample => 0xB#4
  | .check => 0xC#4
  | .report => 0xD#4
  | .cancelled => 0xE#4
  | .reservedF => 0xF#4

/-- The bytes of an instruction: one byte, the code in its low four bits (log entry 9). -/
def encode (i : Instr) : List Byte := [i.code.zeroExtend 8]

/-! ### The opcode table -/

/-- A row of `opcode_table.json`: format `state4`, a match and a mask (R81). -/
structure OpcodeRow where
  /-- The row's mnemonic. -/
  mnemonic : String
  /-- The row's `match`. -/
  pattern : StateCode
  /-- The row's `mask`. -/
  mask : StateCode
  /-- The instruction of the row. -/
  instr : Instr
deriving DecidableEq, Repr

/-- A code matches a row when the bits under the row's mask are the row's match. -/
abbrev OpcodeRow.Matches (r : OpcodeRow) (w : StateCode) : Prop := w &&& r.mask = r.pattern

/-- The 16 rows of `opcode_table.json`, in its order (R80, R81). -/
def opcodeTable : List OpcodeRow :=
  [ ⟨"ARM", 0x0#4, 0xF#4, .arm⟩,
    ⟨"INTER_WAIT", 0x1#4, 0xF#4, .interWait⟩,
    ⟨"START_HI", 0x2#4, 0xF#4, .startHi⟩,
    ⟨"START_WAIT", 0x3#4, 0xF#4, .startWait⟩,
    ⟨"START_LO", 0x4#4, 0xF#4, .startLo⟩,
    ⟨"RELEASE", 0x5#4, 0xF#4, .release⟩,
    ⟨"RESP_WAIT", 0x6#4, 0xF#4, .respWait⟩,
    ⟨"PRESENCE", 0x7#4, 0xF#4, .presence⟩ ] ++
  [ ⟨"WAIT_HI", 0x8#4, 0xF#4, .waitHi⟩,
    ⟨"WAIT_LO", 0x9#4, 0xF#4, .waitLo⟩,
    ⟨"BIT_WAIT", 0xA#4, 0xF#4, .bitWait⟩,
    ⟨"SAMPLE", 0xB#4, 0xF#4, .sample⟩,
    ⟨"CHECK", 0xC#4, 0xF#4, .check⟩,
    ⟨"REPORT", 0xD#4, 0xF#4, .report⟩,
    ⟨"CANCELLED", 0xE#4, 0xF#4, .cancelled⟩,
    ⟨"RESERVED_F", 0xF#4, 0xF#4, .reservedF⟩ ]

/-! ### The codes of the ports -/

/-- `pin_out_o`, `pin_in_i` and `line_s` (R84). -/
def Level.code : Level → Bit
  | .low => 0#1
  | .high => 1#1

/-- `pin_dir_o` (R84). -/
def PinDir.code : PinDir → Bit
  | .input => 0#1
  | .output => 1#1

/-- `pin_pull_o`; the code `0b11` is reserved (R84, R91). -/
def PullMode.code : PullMode → BitVec 2
  | .none => 0b00#2
  | .pullUp => 0b01#2
  | .pullDown => 0b10#2

/-- `rpt_status_o` (R86). -/
def Status.code : Status → BitVec 2
  | .absent => 0b00#2
  | .present => 0b01#2
  | .checksumMismatch => 0b10#2
  | .timeout => 0b11#2

/-- All four codes of `rpt_status_o` are assigned (R86, R91). -/
def decodeStatus (c : BitVec 2) : Status :=
  match c.getLsbD 1, c.getLsbD 0 with
  | false, false => .absent
  | false, true => .present
  | true, false => .checksumMismatch
  | true, true => .timeout

end Sys2Proof
end

