-- ==== Sys2Proof/Machine/State.lean ====
section
/-! DEFINITION. The state of the engine as plain data: the registers of 10_state.md R23 and no others, and
beside them the model's own fields (the instance's parameters and the input ports). The engine has no
memory (20_memory.md R60), so State holds none. -/

namespace Sys2Proof.Machine

/-- The levels at the input ports in one cycle (10_state.md R20). `clk` is implicit: one step is one rising
edge. -/
structure Ports where
  /-- `rst_i`, synchronous reset, active High. -/
  rst : Bit
  /-- `cancel_i`, the cancellation signal, active High. -/
  cancel : Bit
  /-- `pin_in_i`, the level at the pad. -/
  pinIn : Bit
deriving DecidableEq, Repr

/-- The registers of R23 during one cycle, and the model's own fields. -/
structure State where
  /-- The parameters of the instance (00_scope.md R7); the model's own field, written by no step
  (log entry 1). -/
  params : Params
  /-- `st`, the state register, the program counter and instruction word (R24). -/
  st : StateCode
  /-- `wcnt`, the wait counter (R26). -/
  wcnt : Word
  /-- `bwc`, the busy-wait counter (R27). -/
  bwc : Word
  /-- `bidx`, the bit index of the frame (R25). -/
  bidx : BitVec 6
  /-- `data`, the data-field accumulator (R28). -/
  data : Word
  /-- `chk`, the checksum-field accumulator (R29). -/
  chk : Byte
  /-- `pin_dir`, the pin direction (R30). -/
  pinDir : Bit
  /-- `pin_pull`, the pull-resistor mode (R30). -/
  pinPull : BitVec 2
  /-- `pin_out`, the level driven when the direction is Output (R30). -/
  pinOut : Bit
  /-- `cancel_q`, the cancellation latch (R31). -/
  cancelQ : Bit
  /-- `sync[0..SYNC_STAGES-1]`, the input synchroniser chain, the cell nearest the pad first (R32). -/
  sync : List Bit
  /-- `rpt_status` (R34). -/
  rptStatus : BitVec 2
  /-- `rpt_hum` (R34). -/
  rptHum : Half
  /-- `rpt_temp` (R34). -/
  rptTemp : Half
  /-- `rpt_chk` (R34). -/
  rptChk : Byte
  /-- `rpt_calc` (R34). -/
  rptCalc : Byte
  /-- `rpt_chk_ok` (R34). -/
  rptChkOk : Bit
  /-- The input levels placed for this cycle and the ones after it, one entry a cycle (30_encoding.md R98);
  the model's own field (log entry 3). -/
  stimulus : List Ports
  /-- How many edges have been taken, the number of the free draw of an unplaced cycle; the model's own
  field (log entries 3 and 4). -/
  tick : Nat
deriving DecidableEq, Repr

/-- The engine has no fault state and no trap (70_reset_and_hazards.md R244, 60_exceptions.md preamble): no
step raises a fault, so there is no constructor (log entry 8). -/
inductive Fault where
deriving DecidableEq, Repr

/-- Why there is no step. -/
inductive Refusal where
  /-- Raised by an arm of `exec` whose instruction has no meaning yet. Safe. No arm raises it. -/
  | notModelled (mnemonic : String)
  /-- Raised by `clockEdge` for parameters outside the ranges of 00_scope.md R7, or a synchroniser chain
  whose length is not `SYNC_STAGES`: "the model has no engine for it". Safe (log entry 15). -/
  | illegalInstance
deriving DecidableEq, Repr

/-- The state after a reset edge of the instance `p`: the reset column of R23 (70_reset_and_hazards.md R240),
no stimulus placed, at tick 0. -/
def State.resetOf (p : Params) : State where
  params := p
  st := 0x0#4
  wcnt := 0
  bwc := 0
  bidx := 0
  data := 0
  chk := 0
  pinDir := 0
  pinPull := 0b00#2
  pinOut := 0
  cancelQ := 0
  sync := List.replicate p.syncStages 1
  rptStatus := 0b00#2
  rptHum := 0
  rptTemp := 0
  rptChk := 0
  rptCalc := 0
  rptChkOk := 0
  stimulus := []
  tick := 0

/-- The machine right after reset, at the reference instance (log entry 2). -/
def State.reset : State := State.resetOf Params.reference

end Sys2Proof.Machine
end

