-- ==== Sys2Proof/Machine/Operands.lean ====
section
/-! DEFINITION. What a state rule reads: the input ports of the cycle, the synchronised line level
(10_state.md R33), the parameter products (30_encoding.md R88) and the slices of the accumulators (R89). -/

namespace Sys2Proof.Machine

/-! ### The input ports -/

/-- The levels at the input ports `j` cycles from now: the placed stimulus, and a free draw where none is
placed (10_state.md R42; log entries 3 and 4). -/
def State.portsAt (s : State) (j : Nat) : Ports :=
  match s.stimulus[j]? with
  | some p => p
  | none =>
    { rst := Config.freeRst (s.tick + j), cancel := Config.freeCancel (s.tick + j),
      pinIn := Config.freePinIn (s.tick + j) }

/-- The levels at the input ports in this cycle. -/
def State.ports (s : State) : Ports := s.portsAt 0

/-- `cx = cancel_q or cancel_i` (R40, 60_exceptions.md R204). -/
def State.cx (s : State) : Bit := s.cancelQ ||| s.ports.cancel

/-! ### The line -/

/-- `line_s`, the synchronised line level, the value every `PinSample()` returns: the pad itself for
`SYNC_STAGES = 0`, else `sync[SYNC_STAGES-1]` (R33). A chain of another length belongs to no instance; there
the pad stands in (log entry 15). -/
def State.lineS (s : State) : Bit :=
  if s.params.syncStages = 0 then s.ports.pinIn
  else s.sync.getD (s.params.syncStages - 1) s.ports.pinIn

/-- The synchroniser chain after the edge: `sync[0] <- pin_in_i` and `sync[k] <- sync[k-1]`; an empty chain
stays empty (R32). -/
def State.shiftedSync (s : State) : List Bit := (s.ports.pinIn :: s.sync).dropLast

/-! ### Parameters -/

/-- A wait of `n` units in cycles, an unbounded product (R88). -/
def State.waitCycles (s : State) (n : Nat) : Nat := n * s.params.unitCycles

/-! ### Slices of the accumulators (R89) -/

/-- `hum = data[31:16]`. -/
def humOf (data : Word) : Half := data.extractLsb' 16 16

/-- `temp = data[15:0]`. -/
def tempOf (data : Word) : Half := data.extractLsb' 0 16

/-- `d3 = data[31:24]`. -/
def d3Of (data : Word) : Byte := data.extractLsb' 24 8

/-- `d2 = data[23:16]`. -/
def d2Of (data : Word) : Byte := data.extractLsb' 16 8

/-- `d1 = data[15:8]`. -/
def d1Of (data : Word) : Byte := data.extractLsb' 8 8

/-- `d0 = data[7:0]`. -/
def d0Of (data : Word) : Byte := data.extractLsb' 0 8

/-- A sampled bit shifted into a field of `w` bits, most significant bit first:
`((acc << 1) + b) mod 2^w` (41_frame_assembly.md R134). -/
def shiftIn {w : Nat} (acc : BitVec w) (b : Bit) : BitVec w := (acc <<< 1) + b.zeroExtend w

end Sys2Proof.Machine
end

