-- ==== Sys2Proof/Machine/Flags.lean ====
section
/-! DEFINITION. The status the engine computes: the checksum function and its verdict, and the outcome of
CHECK (42_checksum_report.md R160, R161, R163). There are no arithmetic condition codes (10_state.md R36). -/

namespace Sys2Proof.Machine

/-- `ByteSum`, the low byte of the sum of the four data bytes (R161; the spec marks the function itself as
its own assumption, log entry 11). -/
def byteSum (data : Word) : Byte := d3Of data + d2Of data + d1Of data + d0Of data

/-- `rpt_chk_ok`: 1 when the computed checksum is the received one (R160). -/
def checksumOk (data : Word) (chk : Byte) : Bit := if byteSum data = chk then 1 else 0

/-- The outcome of an assembled frame: ChecksumMismatch only under `STRICT_CHECKSUM = 1` (R163). -/
def frameStatus (strict : Nat) (ok : Bit) : Status :=
  if strict = 1 ∧ ok = 0 then .checksumMismatch else .present

/-- The busy-wait guard fires at this stay-sample: `BUSY_GUARD > 0` and `bwc + 1 >= BUSY_GUARD`, unbounded
(41_frame_assembly.md R135). -/
abbrev State.GuardFires (s : State) : Prop :=
  0 < s.params.busyGuard ∧ s.params.busyGuard ≤ s.bwc.toNat + 1

end Sys2Proof.Machine
end

