-- ==== Sys2Proof/Machine/Ops.lean ====
section
/-! DEFINITION. The named operations of the state rules: one writer per register, the pin primitives of
00_scope.md R12, the shared laws Countdown (40_start_signal.md R115) and BusyStay (41_frame_assembly.md R135),
cancellation entry (60_exceptions.md R204, the engine's one exception, from which only reset returns, R211)
and reset (70_reset_and_hazards.md R240). No operation reads what another one of the same edge has written
(R11). -/

namespace Sys2Proof.Machine

/-! ### Writers -/

/-- `st <- S`. -/
def State.goTo (s : State) (i : Instr) : State := { s with st := i.code }

/-- `wcnt <- v`. -/
def State.setWcnt (s : State) (v : Word) : State := { s with wcnt := v }

/-- `bwc <- v`. -/
def State.setBwc (s : State) (v : Word) : State := { s with bwc := v }

/-- `bidx <- v`. -/
def State.setBidx (s : State) (v : BitVec 6) : State := { s with bidx := v }

/-- `data <- v`. -/
def State.setData (s : State) (v : Word) : State := { s with data := v }

/-- `chk <- v`. -/
def State.setChk (s : State) (v : Byte) : State := { s with chk := v }

/-- `PinDir(d)` (R12, R97). -/
def State.pinDirTo (s : State) (d : PinDir) : State := { s with pinDir := d.code }

/-- `PinPull(p)` (R12, R97). -/
def State.pinPullTo (s : State) (p : PullMode) : State := { s with pinPull := p.code }

/-- `PinLevel(v)` (R12, R97). -/
def State.pinLevelTo (s : State) (v : Level) : State := { s with pinOut := v.code }

/-- `PinSample()`: the value; the pin-read event is the output `pin_rd_o` (R12, R70). -/
def State.pinSample (s : State) : Bit := s.lineS

/-- What a report writes (10_state.md R34). -/
structure Report where
  /-- `rpt_status`. -/
  status : Status
  /-- `rpt_hum`. -/
  hum : Half
  /-- `rpt_temp`. -/
  temp : Half
  /-- `rpt_chk`. -/
  chk : Byte
  /-- `rpt_calc`. -/
  computed : Byte
  /-- `rpt_chk_ok`. -/
  chkOk : Bit
deriving DecidableEq, Repr

/-- A report whose fields are all 0: Absent and Timeout (30_encoding.md R87). -/
def Report.zero (status : Status) : Report :=
  { status, hum := 0, temp := 0, chk := 0, computed := 0, chkOk := 0 }

/-- The report of an assembled frame (30_encoding.md R87, 42_checksum_report.md R160). -/
def Report.ofFrame (strict : Nat) (data : Word) (chk : Byte) : Report :=
  { status := frameStatus strict (checksumOk data chk)
    hum := humOf data
    temp := tempOf data
    chk := chk
    computed := byteSum data
    chkOk := checksumOk data chk }

/-- The six report registers, written together at one edge (R34, 20_memory.md R69). -/
def State.setReport (s : State) (r : Report) : State :=
  { s with
    rptStatus := r.status.code
    rptHum := r.hum
    rptTemp := r.temp
    rptChk := r.chk
    rptCalc := r.computed
    rptChkOk := r.chkOk }

/-! ### Shared laws -/

/-- `wcnt <- n * UNIT_CYCLES`, the start of a wait of `n` units (30_encoding.md R88). -/
def State.loadWait (s : State) (n : Nat) : State := s.setWcnt (BitVec.ofNat 32 (s.waitCycles n))

/-- `Countdown(N)` (40_start_signal.md R115). -/
def State.countdown (s : State) (next : Instr) : State :=
  if s.wcnt.toNat ≤ 1 then (s.setWcnt 0).goTo next else s.setWcnt (s.wcnt - 1)

/-- The end of a decode with a report: the report registers are written at the edge that enters REPORT
(10_state.md R34). -/
def State.deliver (s : State) (r : Report) : State := (s.setReport r).goTo .report

/-- `BusyStay()` (41_frame_assembly.md R135). -/
def State.busyStay (s : State) : State :=
  if s.GuardFires then s.deliver (.zero .timeout) else s.setBwc (s.bwc + 1)

/-! ### Cancellation, reset and the end of a cycle -/

/-- `raise Cancel`: control goes to the fixed state CANCELLED and nothing is saved (60_exceptions.md R204,
R210). The latch and the synchroniser are written by `endCycle`, as at every edge. -/
def State.raiseCancel (s : State) : State := s.goTo .cancelled

/-- Every register at its reset value, whatever it held (70_reset_and_hazards.md R240). Reset is also the only
way out of CANCELLED (60_exceptions.md R211). -/
def State.resetRegisters (s : State) : State := State.resetOf s.params

/-- Reset in place: every register takes its reset value (R240), and the next cycle's input levels come up (the
model's own fields; they are no registers, so reset does not touch them, log entry 3). -/
def State.resetEdge (s : State) : State :=
  { s.resetRegisters with stimulus := s.stimulus.tail, tick := s.tick + 1 }

/-- What every edge without reset does beside the state rule, from the values `before` the edge: the latch
takes `cx` (10_state.md R31), the synchroniser shifts (R32), and the next cycle's input levels come up.
`after` is what the state rule or the cancellation made of the other registers. -/
def State.endCycle (before after : State) : State :=
  { after with
    cancelQ := before.cx
    sync := before.shiftedSync
    stimulus := before.stimulus.tail
    tick := before.tick + 1 }

end Sys2Proof.Machine
end

