-- ==== Sys2Proof/Machine/ChecksumReport.lean ====
section
/-! DEFINITION. The checksum validator, the value derivation and the report (42_checksum_report.md): CHECK and
REPORT. A meaning is the state rule alone; reset and cancellation come before it, in `clockEdge`
(10_state.md R40; log entry 5). -/

namespace Sys2Proof.Machine

/-- CHECK, `0xC` (R160). -/
def execCheck (s : State) : Host.Outcome State Fault Refusal :=
  .next (s.deliver (.ofFrame s.params.strictChecksum s.data s.chk))

/-- REPORT, `0xD` (R167): the delivery itself is the output `rpt_valid_o` of the cycle. -/
def execReport (s : State) : Host.Outcome State Fault Refusal :=
  .next (s.goTo .arm)

end Sys2Proof.Machine
end

