-- ==== Sys2Proof/Machine/FrameAssembly.lean ====
section
/-! DEFINITION. The presence check and the assembly of the frame (41_frame_assembly.md): PRESENCE, WAIT_HI,
WAIT_LO, BIT_WAIT and SAMPLE. A meaning is the state rule alone; reset and cancellation come before it, in
`clockEdge` (10_state.md R40; log entry 5). -/

namespace Sys2Proof.Machine

/-- The frame's registers are cleared (R130, the present path). -/
def State.clearFrame (s : State) : State := (((s.setData 0).setChk 0).setBidx 0).setBwc 0

/-- The accumulator that `bidx` selects takes the sampled bit: the data field below 32, the checksum field
from 32 on (R134, 10_state.md R25). -/
def State.accumulate (s : State) (b : Bit) : State :=
  if s.bidx.toNat < 32 then s.setData (shiftIn s.data b) else s.setChk (shiftIn s.chk b)

/-- PRESENCE, `0x7` (R130). -/
def execPresence (s : State) : Host.Outcome State Fault Refusal :=
  if s.pinSample = 1 then .next (s.deliver (.zero .absent))
  else .next (s.clearFrame.goTo .waitHi)

/-- WAIT_HI, `0x8` (R131): High is the stay level. -/
def execWaitHi (s : State) : Host.Outcome State Fault Refusal :=
  if s.pinSample = 1 then .next s.busyStay
  else .next ((s.setBwc 0).goTo .waitLo)

/-- WAIT_LO, `0x9` (R132): Low is the stay level. -/
def execWaitLo (s : State) : Host.Outcome State Fault Refusal :=
  if s.pinSample = 0 then .next s.busyStay
  else .next (((s.setBwc 0).loadWait s.params.tBit).goTo .bitWait)

/-- BIT_WAIT, `0xA` (R133). -/
def execBitWait (s : State) : Host.Outcome State Fault Refusal :=
  .next (s.countdown .sample)

/-- SAMPLE, `0xB` (R134): `bidx` is read before the edge. -/
def execSample (s : State) : Host.Outcome State Fault Refusal :=
  .next ((((s.accumulate s.pinSample).setBidx (s.bidx + 1)).setBwc 0).goTo
    (if s.bidx = 39 then .check else .waitHi))

end Sys2Proof.Machine
end

