-- ==== Sys2Proof/Machine/PollerCadence.lean ====
section
/-! DEFINITION. The poller cadence and the states outside the protocol (43_poller_cadence.md): ARM,
INTER_WAIT, CANCELLED and the reserved code. A meaning is the state rule alone; reset and cancellation
come before it, in `clockEdge` (10_state.md R40; log entry 5). -/

namespace Sys2Proof.Machine

/-- ARM, `0x0` (R180). -/
def execArm (s : State) : Host.Outcome State Fault Refusal :=
  .next ((((s.pinDirTo .output).pinLevelTo .high).loadWait s.params.tInter).goTo .interWait)

/-- INTER_WAIT, `0x1` (R181). -/
def execInterWait (s : State) : Host.Outcome State Fault Refusal :=
  .next (s.countdown .startHi)

/-- CANCELLED, `0xE`: no assignment (R183). -/
def execCancelled (s : State) : Host.Outcome State Fault Refusal :=
  .next s

/-- The reserved code `0xF`: the move to CANCELLED and nothing else (R184). -/
def execReservedF (s : State) : Host.Outcome State Fault Refusal :=
  .next (s.goTo .cancelled)

end Sys2Proof.Machine
end

