-- ==== Sys2Proof/Machine/StartSignal.lean ====
section
/-! DEFINITION. The start signal and the response wait (40_start_signal.md): START_HI, START_WAIT, START_LO,
RELEASE and RESP_WAIT. A meaning is the state rule alone; reset and cancellation come before it, in
`clockEdge` (10_state.md R40; log entry 5). -/

namespace Sys2Proof.Machine

/-- START_HI, `0x2` (R110). -/
def execStartHi (s : State) : Host.Outcome State Fault Refusal :=
  .next ((((s.pinDirTo .output).pinLevelTo .high).loadWait s.params.tStart).goTo .startWait)

/-- START_WAIT, `0x3` (R111). -/
def execStartWait (s : State) : Host.Outcome State Fault Refusal :=
  .next (s.countdown .startLo)

/-- START_LO, `0x4` (R112). -/
def execStartLo (s : State) : Host.Outcome State Fault Refusal :=
  .next ((s.pinLevelTo .low).goTo .release)

/-- RELEASE, `0x5` (R113). -/
def execRelease (s : State) : Host.Outcome State Fault Refusal :=
  .next ((((s.pinDirTo .input).pinPullTo .pullUp).loadWait s.params.tResp).goTo .respWait)

/-- RESP_WAIT, `0x6` (R114). -/
def execRespWait (s : State) : Host.Outcome State Fault Refusal :=
  .next (s.countdown .presence)

end Sys2Proof.Machine
end

