-- ==== Sys2Proof/Machine/Dispatch.lean ====
section
/-! DEFINITION. The rule of each state (30_encoding.md R80): one arm per row of the opcode table. -/

namespace Sys2Proof.Machine

def exec (i : Instr) (s : State) : Host.Outcome State Fault Refusal :=
  match i with
  | .arm => Sys2Proof.Machine.execArm s
  | .interWait => Sys2Proof.Machine.execInterWait s
  | .startHi => Sys2Proof.Machine.execStartHi s
  | .startWait => Sys2Proof.Machine.execStartWait s
  | .startLo => Sys2Proof.Machine.execStartLo s
  | .release => Sys2Proof.Machine.execRelease s
  | .respWait => Sys2Proof.Machine.execRespWait s
  | .presence => Sys2Proof.Machine.execPresence s
  | .waitHi => Sys2Proof.Machine.execWaitHi s
  | .waitLo => Sys2Proof.Machine.execWaitLo s
  | .bitWait => Sys2Proof.Machine.execBitWait s
  | .sample => Sys2Proof.Machine.execSample s
  | .check => Sys2Proof.Machine.execCheck s
  | .report => Sys2Proof.Machine.execReport s
  | .cancelled => Sys2Proof.Machine.execCancelled s
  | .reservedF => Sys2Proof.Machine.execReservedF s

end Sys2Proof.Machine
end

