-- ==== Sys2Proof/Machine/Edge.lean ====
section
/-! DEFINITION. One rising edge of `clk` (10_state.md R40, 60_exceptions.md R209): reset before cancellation
before the rule of the state. -/

namespace Sys2Proof.Machine

/-- The state word is the instruction; nothing is fetched from memory (R24, 20_memory.md R77). -/
def State.fetch (s : State) : Instr := decodeState s.st

/-- There is an engine for this state: its parameters are legal and its synchroniser has `SYNC_STAGES` cells
(00_scope.md R7, 10_state.md R32; log entry 15). -/
abbrev State.HasEngine (s : State) : Prop :=
  s.params.Legal ∧ s.sync.length = s.params.syncStages

/-- The rule of the state with the edge's latch and shift around it (R40). -/
def State.applyRule (s : State) : Host.Outcome State Fault Refusal :=
  match exec s.fetch s with
  | .next t => .next (s.endCycle t)
  | .fault r => .fault r
  | .refused r => .refused r

/-- One step of the engine, in the order of precedence of R40 and R209. -/
def clockEdge (s : State) : Host.Outcome State Fault Refusal :=
  if s.HasEngine then
    if s.ports.rst = 1 then .next s.resetEdge
    else if s.cx = 1 then .next (s.endCycle s.raiseCancel)
    else s.applyRule
  else .refused .illegalInstance

/-- The state with an instruction's word in the state register, in a cycle in which its rule applies: no
reset and no cancellation. `pin_in_i` and everything else stay (log entry 6). -/
def State.placeWord (s : State) (w : Nat) : State :=
  { s with
    st := BitVec.ofNat 4 w
    cancelQ := 0
    stimulus := { rst := 0, cancel := 0, pinIn := s.ports.pinIn } :: s.stimulus.tail }

end Sys2Proof.Machine
end

