-- ==== Sys2Proof/Machine/Step.lean ====
section
/-! DEFINITION. The step of the machine: one rising edge of `clk` (10_state.md R40). -/

namespace Sys2Proof.Machine

/-- One cycle of the engine (R40). -/
def step (s : State) : Host.Outcome State Fault Refusal := clockEdge s

/-- The state whose next step runs the instruction with these bits: the state register holds the word, there
is no memory to place it in (20_memory.md R77; log entry 6). -/
def State.withFetchWord (s : State) (nbits w : Nat) : State := s.placeWord (w % 2 ^ nbits)

end Sys2Proof.Machine
end

