-- ==== Sys2Proof/Machine/Outputs.lean ====
section
/-! DEFINITION. The output ports (10_state.md R21), functions of the registers and inputs of the cycle (R35),
and the Reading a sink takes from them (00_scope.md R17, 42_checksum_report.md R165). -/

namespace Sys2Proof.Machine

/-- The states whose rule performs `PinSample()` (R35). -/
def samplingStates : List StateCode := [0x7#4, 0x8#4, 0x9#4, 0xB#4]

/-- `pin_rd_o` (R35). -/
def State.pinRd (s : State) : Bit :=
  if s.ports.rst = 0 ∧ s.cancelQ = 0 ∧ s.ports.cancel = 0 ∧ s.st ∈ samplingStates then 1 else 0

/-- `rpt_valid_o` (R35). -/
def State.rptValid (s : State) : Bit :=
  if s.ports.rst = 0 ∧ s.st = 0xD#4 then 1 else 0

/-- `stopped_o` (R35). -/
def State.stopped (s : State) : Bit :=
  if s.ports.rst = 0 ∧ s.st = 0xE#4 then 1 else 0

/-- The levels at the output ports in one cycle (R21). -/
structure Outputs where
  /-- `pin_dir_o`. -/
  pinDirO : Bit
  /-- `pin_pull_o`. -/
  pinPullO : BitVec 2
  /-- `pin_out_o`. -/
  pinOutO : Bit
  /-- `pin_rd_o`. -/
  pinRdO : Bit
  /-- `rpt_valid_o`. -/
  rptValidO : Bit
  /-- `rpt_status_o`. -/
  rptStatusO : BitVec 2
  /-- `rpt_hum_o`. -/
  rptHumO : Half
  /-- `rpt_temp_o`. -/
  rptTempO : Half
  /-- `rpt_chk_o`. -/
  rptChkO : Byte
  /-- `rpt_calc_o`. -/
  rptCalcO : Byte
  /-- `rpt_chk_ok_o`. -/
  rptChkOkO : Bit
  /-- `stopped_o`. -/
  stoppedO : Bit
  /-- `dbg_state_o`. -/
  dbgStateO : StateCode
deriving DecidableEq, Repr

/-- The output ports of the cycle (R21, R30, R35). -/
def State.outputs (s : State) : Outputs where
  pinDirO := s.pinDir
  pinPullO := s.pinPull
  pinOutO := s.pinOut
  pinRdO := s.pinRd
  rptValidO := s.rptValid
  rptStatusO := s.rptStatus
  rptHumO := s.rptHum
  rptTempO := s.rptTemp
  rptChkO := s.rptChk
  rptCalcO := s.rptCalc
  rptChkOkO := s.rptChkOk
  stoppedO := s.stopped
  dbgStateO := s.st

/-- What one report says to the sink: the source's Reading with the two labelled outcomes (R86). -/
inductive Reading where
  | absent
  | present (humidity temperature : ℚ)
  | checksumMismatch
  | timeout
deriving DecidableEq

/-- The exact value of a raw half: `raw / 256`, unsigned (R165). -/
def rawValue (raw : Half) : ℚ := (raw.toNat : ℚ) / 256

/-- The Reading at the report port: one in the cycle `rpt_valid_o = 1`, none in any other (R167, R168). The
fields of a ChecksumMismatch "must not" be taken as a reading (R163). -/
def Outputs.reading (o : Outputs) : Option Reading :=
  if o.rptValidO = 1 then
    some (match decodeStatus o.rptStatusO with
      | .absent => .absent
      | .present => .present (rawValue o.rptHumO) (rawValue o.rptTempO)
      | .checksumMismatch => .checksumMismatch
      | .timeout => .timeout)
  else none

end Sys2Proof.Machine
end

