-- ==== Sys2Proof/Safety.lean ====
section
/-! DEFINITION. The terms claims use: runs and what is observed of them (60_exceptions.md R220), cycles without
reset and cancellation (launch premises of 70_reset_and_hazards.md R244), the level the engine sees in a
later cycle (10_state.md R33), the trace expansions (30_encoding.md R94 to R96), the waveform of a bit
(41_frame_assembly.md R142), and the invariant of runs from reset. -/

namespace Sys2Proof.Machine

/-! ### Runs -/

/-- `n` cycles of the engine. -/
def runFor : Nat → State → Host.Outcome State Fault Refusal
  | 0, s => .next s
  | n + 1, s =>
    match step s with
    | .next t => runFor n t
    | .fault r => .fault r
    | .refused r => .refused r

/-- The output ports in the first `n` cycles (R220). -/
def observe : Nat → State → List Outputs
  | 0, _ => []
  | n + 1, s =>
    s.outputs :: (match step s with
      | .next t => observe n t
      | .fault _ => []
      | .refused _ => [])

/-- The state mnemonics of the first `n` cycles (R94), as `dbg_state_o` shows them. -/
def trace (n : Nat) (s : State) : List Instr := (observe n s).map fun o => decodeState o.dbgStateO

/-- How many pin reads the first `n` cycles perform (41_frame_assembly.md R139). -/
def readCount (n : Nat) (s : State) : Nat := (observe n s).countP fun o => o.pinRdO = 1

/-- How many reports the first `n` cycles deliver (42_checksum_report.md R169). -/
def reportCount (n : Nat) (s : State) : Nat := (observe n s).countP fun o => o.rptValidO = 1

/-! ### The inputs of a run -/

/-- No reset edge in the next `n` cycles (LP4). -/
def NoReset (s : State) (n : Nat) : Prop := ∀ j < n, (s.portsAt j).rst = 0

/-- Neither reset nor cancellation in the next `n` cycles. -/
def Quiet (s : State) (n : Nat) : Prop :=
  s.cancelQ = 0 ∧ ∀ j < n, (s.portsAt j).rst = 0 ∧ (s.portsAt j).cancel = 0

/-- `line_s` in the cycle `j` cycles from now, with no reset edge in between: the pad as it was `SYNC_STAGES`
cycles earlier, or a level already in the chain (10_state.md R33, 20_memory.md R73). -/
def lineAt (s : State) (j : Nat) : Bit :=
  if s.params.syncStages ≤ j then (s.portsAt (j - s.params.syncStages)).pinIn
  else s.sync.getD (s.params.syncStages - 1 - j) 0

/-- A stimulus in the notation of R98: the levels of `pin_in_i` from cycle 0, and the first cycle in which
`cancel_i = 1`, held from there on. -/
def stimulusOf (pins : List Bit) (cancelFrom : Option Nat) : List Ports :=
  pins.zipIdx.map fun (b, c) =>
    { rst := 0
      cancel := match cancelFrom with
        | some k => if k ≤ c then 1 else 0
        | none => 0
      pinIn := b }

/-! ### Bits on the line -/

/-- One bit as the line sends it: how many cycles WAIT_HI and WAIT_LO last, and the level in the SAMPLE
cycle. -/
structure Pulse where
  /-- Cycles in WAIT_HI, `h_i` of R139. -/
  hi : Nat
  /-- Cycles in WAIT_LO, `l_i` of R139. -/
  lo : Nat
  /-- The sampled bit. -/
  value : Bit
deriving DecidableEq, Repr

/-- The cycles one bit takes: `h + l + T_BIT*U + 1` (R142, R185). -/
def Pulse.cycles (p : Params) (b : Pulse) : Nat := b.hi + b.lo + p.tBit * p.unitCycles + 1

/-- From cycle `c` on the line gives the pulse `b`: High for `hi - 1` cycles and then Low, Low for `lo - 1`
cycles and then High, and the bit's level `T_BIT*U + 1` cycles after that High (R131, R132, R142). Each
busy-wait is shorter than the guard, if there is one (R135). -/
def PulseAt (s : State) (c : Nat) (b : Pulse) : Prop :=
  1 ≤ b.hi ∧ 1 ≤ b.lo ∧
  (s.params.busyGuard = 0 ∨ (b.hi ≤ s.params.busyGuard ∧ b.lo ≤ s.params.busyGuard)) ∧
  (∀ j < b.hi - 1, lineAt s (c + j) = 1) ∧ lineAt s (c + (b.hi - 1)) = 0 ∧
  (∀ j < b.lo - 1, lineAt s (c + b.hi + j) = 0) ∧ lineAt s (c + b.hi + (b.lo - 1)) = 1 ∧
  lineAt s (c + b.hi + b.lo + s.params.tBit * s.params.unitCycles) = b.value

/-- From cycle `c` on the line gives these pulses, one after the other. -/
def PulsesAt (s : State) : Nat → List Pulse → Prop
  | _, [] => True
  | c, b :: rest => PulseAt s c b ∧ PulsesAt s (c + b.cycles s.params) rest

/-- The cycles these bits take. -/
def pulsesCycles (p : Params) (bs : List Pulse) : Nat := (bs.map (Pulse.cycles p)).sum

/-- The pulses carry the 40 bits of a frame, `frame[39]` first (20_memory.md R63). -/
def CarriesFrame (bs : List Pulse) (frame : BitVec 40) : Prop :=
  bs.length = 40 ∧ ∀ k (h : k < bs.length), bs[k].value = BitVec.ofBool (frame.getLsbD (39 - k))

/-! ### Trace expansions (30_encoding.md R95, R96) -/

/-- POLL_CYCLE up to and including PRESENCE. -/
def traceToPresence (p : Params) : List Instr :=
  [.arm] ++ List.replicate (p.tInter * p.unitCycles) .interWait ++
  [.startHi] ++ List.replicate (p.tStart * p.unitCycles) .startWait ++
  [.startLo, .release] ++ List.replicate (p.tResp * p.unitCycles) .respWait ++ [.presence]

/-- The four states of one bit (R95). -/
def traceOfPulse (p : Params) (b : Pulse) : List Instr :=
  List.replicate b.hi .waitHi ++ List.replicate b.lo .waitLo ++
  List.replicate (p.tBit * p.unitCycles) .bitWait ++ [.sample]

/-- POLL_CYCLE: with no pulses, the Absent cycle; else the bits of a frame and CHECK (R95, R96). -/
def tracePollCycle (p : Params) : Option (List Pulse) → List Instr
  | none => traceToPresence p ++ [.report]
  | some bs => traceToPresence p ++ (bs.map (traceOfPulse p)).flatten ++ [.check, .report]

/-! ### Durations -/

/-- Cycles as milliseconds of the instance's clock (00_scope.md R7, 70_reset_and_hazards.md R253); no rule of
the engine reads `F_CLK` (93 I6), a whole number of Hz here (log entry 16). -/
def milliseconds (p : Params) (cycles : Nat) : ℚ := (cycles : ℚ) * 1000 / (p.fClk : ℚ)

/-- The cycles of an Absent poller cycle, ARM to REPORT (43_poller_cadence.md R185). -/
def absentCycles (p : Params) : Nat := 6 + (p.tInter + p.tStart + p.tResp) * p.unitCycles

/-- The cycles of the poller cycle of an assembled frame whose bits these are (R185). -/
def frameCycles (p : Params) (bs : List Pulse) : Nat :=
  7 + (p.tInter + p.tStart + p.tResp) * p.unitCycles + pulsesCycles p bs

/-! ### The invariant of runs from reset -/

/-- The constant of a wait state, in units (30_encoding.md R88). -/
def waitConstant (p : Params) (st : StateCode) : Option Nat :=
  if st = 0x1#4 then some p.tInter
  else if st = 0x3#4 then some p.tStart
  else if st = 0x6#4 then some p.tResp
  else if st = 0xA#4 then some p.tBit
  else none

/-- What the report registers hold agrees with the outcome they name (30_encoding.md R86, R87;
10_state.md R36). -/
structure ReportAgrees (s : State) : Prop where
  /-- Absent and Timeout carry zeros. -/
  zero : s.rptStatus = 0b00#2 ∨ s.rptStatus = 0b11#2 →
    s.rptHum = 0 ∧ s.rptTemp = 0 ∧ s.rptChk = 0 ∧ s.rptCalc = 0 ∧ s.rptChkOk = 0
  /-- The computed checksum is that of the reported values, and the verdict compares the reported pair. -/
  verdict : s.rptStatus = 0b01#2 ∨ s.rptStatus = 0b10#2 →
    s.rptCalc = byteSum (s.rptHum ++ s.rptTemp) ∧ (s.rptChkOk = 1 ↔ s.rptCalc = s.rptChk)
  /-- Under the strict setting a Present frame matched. -/
  present : s.rptStatus = 0b01#2 → s.params.strictChecksum = 1 → s.rptChkOk = 1
  /-- ChecksumMismatch exists under the strict setting alone, and its frame did not match. -/
  mismatch : s.rptStatus = 0b10#2 → s.params.strictChecksum = 1 ∧ s.rptChkOk = 0
  /-- Timeout exists with a guard alone. -/
  timeout : s.rptStatus = 0b11#2 → 0 < s.params.busyGuard

/-- The pin-control registers in each state (40_start_signal.md R116, 43_poller_cadence.md R183). -/
structure PinsAgree (s : State) : Prop where
  /-- PullDown and the reserved code are never driven (30_encoding.md R84, R91). -/
  pull : s.pinPull = 0b00#2 ∨ s.pinPull = 0b01#2
  /-- Released before the first ARM edge and from RESP_WAIT to the next ARM edge. -/
  released : s.st ∈ [0x0#4, 0x6#4, 0x7#4, 0x8#4, 0x9#4, 0xA#4, 0xB#4, 0xC#4, 0xD#4] →
    s.pinDir = 0 ∧ s.pinOut = 0
  /-- The pull-up is on from RESP_WAIT to REPORT. -/
  pulledUp : s.st ∈ [0x6#4, 0x7#4, 0x8#4, 0x9#4, 0xA#4, 0xB#4, 0xC#4, 0xD#4] → s.pinPull = 0b01#2
  /-- Driven High from the ARM edge to the START_LO edge. -/
  high : s.st ∈ [0x1#4, 0x2#4, 0x3#4, 0x4#4] → s.pinDir = 1 ∧ s.pinOut = 1
  /-- Driven Low in the one RELEASE cycle. -/
  low : s.st = 0x5#4 → s.pinDir = 1 ∧ s.pinOut = 0

/-- The counters in each state. -/
structure CountersAgree (s : State) : Prop where
  /-- `1 <= wcnt <= T_x * UNIT_CYCLES` in a wait state (10_state.md R44). -/
  wait : ∀ n, waitConstant s.params s.st = some n →
    1 ≤ s.wcnt.toNat ∧ s.wcnt.toNat ≤ n * s.params.unitCycles
  /-- `bidx` counts to 40 (R25). -/
  bits : s.bidx.toNat ≤ 40
  /-- A bit is still to come in the four bit states (41_frame_assembly.md R134). -/
  bitsLeft : s.st ∈ [0x8#4, 0x9#4, 0xA#4, 0xB#4] → s.bidx.toNat < 40
  /-- CHECK comes after the 40th bit (R141). -/
  bitsDone : s.st = 0xC#4 → s.bidx.toNat = 40
  /-- A busy-wait is below its guard (R135). -/
  guarded : s.st ∈ [0x8#4, 0x9#4] → 0 < s.params.busyGuard → s.bwc.toNat < s.params.busyGuard

/-- In REPORT, the fields of an assembled frame are those of the accumulators: the same frame
(42_checksum_report.md R162). -/
structure SameFrame (s : State) : Prop where
  /-- The six registers come from `data` and `chk`, after 40 bits. -/
  fields : s.st = 0xD#4 → (s.rptStatus = 0b01#2 ∨ s.rptStatus = 0b10#2) →
    s.rptHum = humOf s.data ∧ s.rptTemp = tempOf s.data ∧ s.rptChk = s.chk ∧
    s.rptCalc = byteSum s.data ∧ s.rptChkOk = checksumOk s.data s.chk ∧ s.bidx.toNat = 40

/-- What holds in every cycle of a run from reset. -/
structure EngineInv (s : State) : Prop where
  /-- Legal parameters and a chain of `SYNC_STAGES` cells (00_scope.md R7, 10_state.md R32). -/
  engine : s.HasEngine
  /-- The reserved code is not reached (30_encoding.md R91). -/
  notReserved : s.st ≠ 0xF#4
  /-- The latch is up exactly in CANCELLED (95_test_vectors.md V8 #7). -/
  latch : s.cancelQ = 1 ↔ s.st = 0xE#4
  /-- The pin-control registers. -/
  pins : PinsAgree s
  /-- The counters. -/
  counters : CountersAgree s
  /-- The report registers. -/
  report : ReportAgrees s
  /-- The report and the frame. -/
  frame : SameFrame s

/-- The states that may follow a state in a cycle without reset and cancellation (43_poller_cadence.md R182 and
the successor assignments of R110 to R184). -/
def successors : Instr → List Instr
  | .arm => [.interWait]
  | .interWait => [.interWait, .startHi]
  | .startHi => [.startWait]
  | .startWait => [.startWait, .startLo]
  | .startLo => [.release]
  | .release => [.respWait]
  | .respWait => [.respWait, .presence]
  | .presence => [.report, .waitHi]
  | .waitHi => [.waitHi, .waitLo, .report]
  | .waitLo => [.waitLo, .bitWait, .report]
  | .bitWait => [.bitWait, .sample]
  | .sample => [.waitHi, .check]
  | .check => [.report]
  | .report => [.arm]
  | .cancelled => [.cancelled]
  | .reservedF => [.cancelled]

end Sys2Proof.Machine
end

