-- ==== Sys2Proof/Certificates/Slice0/Obligations.lean ====
section
/-! DEFINITION. The statements for the provers. Register values stand as the spec's own numbers and records of
the named state, so that a reader can hold them beside the rules; every field a record does not name is
unchanged, which is the frame. The engine has no memory (20_memory.md R60), so no frame speaks of any. -/

open Sys2Proof Sys2Proof.Machine

/-! ### Encoding -/

/-- R80: each state code selects its state. -/
def Obligations.StateCodesDecode : Prop :=
  decodeState 0x0#4 = .arm ∧ decodeState 0x1#4 = .interWait ∧ decodeState 0x2#4 = .startHi ∧
  decodeState 0x3#4 = .startWait ∧ decodeState 0x4#4 = .startLo ∧ decodeState 0x5#4 = .release ∧
  decodeState 0x6#4 = .respWait ∧ decodeState 0x7#4 = .presence ∧ decodeState 0x8#4 = .waitHi ∧
  decodeState 0x9#4 = .waitLo ∧ decodeState 0xA#4 = .bitWait ∧ decodeState 0xB#4 = .sample ∧
  decodeState 0xC#4 = .check ∧ decodeState 0xD#4 = .report ∧ decodeState 0xE#4 = .cancelled ∧
  decodeState 0xF#4 = .reservedF

/-- R90: the decoder is total, each value of `st` matches exactly one row of the opcode table, and the decoder
gives that row's instruction. -/
def Obligations.EveryCodeSelectsOneRow : Prop :=
  ∀ w : StateCode,
    (opcodeTable.filter fun r => r.Matches w).length = 1 ∧
    ∃ r ∈ opcodeTable, r.Matches w ∧ r.instr = decodeState w

/-- Decode and encode agree in both directions, and a byte with a bit above the state word is refused by name.
The place of the 4-bit word in a byte is the model's choice (log entry 9). -/
def Obligations.DecodeEncodeRoundTrip : Prop :=
  (∀ (i : Instr) (rest : List Byte), decodeBytes (encode i ++ rest) = .ok (i, rest)) ∧
  (∀ (bs : List Byte) (i : Instr) (rest : List Byte),
    decodeBytes bs = .ok (i, rest) → bs = encode i ++ rest) ∧
  (∀ (b : Byte) (rest : List Byte), 16 ≤ b.toNat → decodeBytes (b :: rest) = .error (.notAStateWord b))

/-! ### The edge -/

/-- Without reset and cancellation, the edge applies the rule of the state that `st` names, the synchroniser
shifts, and the next cycle's inputs come up (R40, R31, R32); how inputs stand in the state is the model's
choice (log entries 3 and 4). -/
def Obligations.StepRunsDecodedInstruction : Prop :=
  ∀ (s t : State) (i : Instr), s.HasEngine → s.ports.rst = 0 → s.cancelQ = 0 → s.ports.cancel = 0 →
    decodeState s.st = i → exec i s = .next t →
    step s = .next { t with
      cancelQ := 0, sync := (s.ports.pinIn :: s.sync).take s.params.syncStages,
      stimulus := s.stimulus.tail, tick := s.tick + 1 }

/-- R240: at an edge with `rst_i = 1` every register takes its reset value, whatever it held and whatever
`cancel_i` and `pin_in_i` are. The model's own input fields are left open here. -/
def Obligations.ResetEdgeSetsEveryRegister : Prop :=
  ∀ s : State, s.HasEngine → s.ports.rst = 1 →
    ∃ t, step s = .next t ∧ t = {
      params := s.params, st := 0x0#4, wcnt := 0, bwc := 0, bidx := 0, data := 0, chk := 0,
      pinDir := 0, pinPull := 0b00#2, pinOut := 0, cancelQ := 0,
      sync := List.replicate s.params.syncStages 1,
      rptStatus := 0b00#2, rptHum := 0, rptTemp := 0, rptChk := 0, rptCalc := 0, rptChkOk := 0,
      stimulus := t.stimulus, tick := t.tick }

/-- R204: at an edge with `rst_i = 0` and `cancel_q or cancel_i = 1`, `st` goes to CANCELLED, the latch is
set, the synchroniser shifts, no other register is assigned, and there is no pin read in that cycle. The
model's own input fields are left open here. -/
def Obligations.CancelEdgeSuppressesStateRule : Prop :=
  ∀ s : State, s.HasEngine → s.ports.rst = 0 → (s.cancelQ = 1 ∨ s.ports.cancel = 1) →
    (∃ t, step s = .next t ∧ t = { s with
      st := 0xE#4, cancelQ := 1, sync := (s.ports.pinIn :: s.sync).take s.params.syncStages,
      stimulus := t.stimulus, tick := t.tick }) ∧
    s.outputs.pinRdO = 0

/-- Every edge brings up the next cycle's input levels: the port levels `j` cycles after the edge are those
`j + 1` cycles before it. How inputs stand in the state is the model's choice (log entries 3 and 4). -/
def Obligations.EdgeAdvancesInputs : Prop :=
  ∀ (s t : State) (j : Nat), step s = .next t → t.portsAt j = s.portsAt (j + 1)

/-- "An instance that breaks any range is refused: the model has no engine for it" (R7, 93 I15). That the
refusal comes at the step is the model's choice (log entry 15). -/
def Obligations.IllegalInstanceIsRefused : Prop :=
  ∀ s : State, ¬ s.params.Legal → step s = .refused .illegalInstance

/-- The reset state of every instance has the reset column of R23, and its first state is ARM (R241).
`State.reset` is that state for the reference instance (log entry 2). -/
def Obligations.ResetStateHasResetColumn : Prop :=
  State.reset = State.resetOf Params.reference ∧
  ∀ p : Params,
    State.resetOf p = {
      params := p, st := 0x0#4, wcnt := 0, bwc := 0, bidx := 0, data := 0, chk := 0,
      pinDir := 0, pinPull := 0b00#2, pinOut := 0, cancelQ := 0,
      sync := List.replicate p.syncStages 1,
      rptStatus := 0b00#2, rptHum := 0, rptTemp := 0, rptChk := 0, rptCalc := 0, rptChkOk := 0,
      stimulus := [], tick := 0 } ∧
    decodeState (State.resetOf p).st = .arm

/-! ### The state rules -/

/-- R180: ARM, the state after reset. -/
def Obligations.ArmReassertsIdle : Prop :=
  decodeState 0x0#4 = .arm ∧ (∀ p : Params, (State.resetOf p).st = 0x0#4) ∧
  ∀ s : State, exec .arm s = .next { s with
    pinDir := 1, pinOut := 1, wcnt := BitVec.ofNat 32 (s.params.tInter * s.params.unitCycles),
    st := 0x1#4 }

/-- R110: START_HI. -/
def Obligations.StartHiBeginsHold : Prop :=
  decodeState 0x2#4 = .startHi ∧
  ∀ s : State, exec .startHi s = .next { s with
    pinDir := 1, pinOut := 1, wcnt := BitVec.ofNat 32 (s.params.tStart * s.params.unitCycles),
    st := 0x3#4 }

/-- R112: START_LO. -/
def Obligations.StartLoDrivesLow : Prop :=
  decodeState 0x4#4 = .startLo ∧
  ∀ s : State, exec .startLo s = .next { s with pinOut := 0, st := 0x5#4 }

/-- R113: RELEASE. -/
def Obligations.ReleaseFreesLine : Prop :=
  decodeState 0x5#4 = .release ∧
  ∀ s : State, exec .release s = .next { s with
    pinDir := 0, pinPull := 0b01#2,
    wcnt := BitVec.ofNat 32 (s.params.tResp * s.params.unitCycles), st := 0x6#4 }

/-- R181, R111, R114, R133 with the countdown of R115: each of the four wait states either ends, with the
counter at 0 and its own successor, or takes one from the counter and stays. -/
def Obligations.WaitStatesCountDown : Prop :=
  (∀ s : State, s.wcnt.toNat ≤ 1 →
    exec .interWait s = .next { s with wcnt := 0, st := 0x2#4 } ∧
    exec .startWait s = .next { s with wcnt := 0, st := 0x4#4 } ∧
    exec .respWait s = .next { s with wcnt := 0, st := 0x7#4 } ∧
    exec .bitWait s = .next { s with wcnt := 0, st := 0xB#4 }) ∧
  (∀ s : State, 1 < s.wcnt.toNat →
    exec .interWait s = .next { s with wcnt := s.wcnt - 1 } ∧
    exec .startWait s = .next { s with wcnt := s.wcnt - 1 } ∧
    exec .respWait s = .next { s with wcnt := s.wcnt - 1 } ∧
    exec .bitWait s = .next { s with wcnt := s.wcnt - 1 })

/-- R130: PRESENCE, with one pin read. High is Absent with every report field 0; Low clears the frame's
registers. -/
def Obligations.PresenceChecksSensor : Prop :=
  decodeState 0x7#4 = .presence ∧
  (∀ s : State, s.st = 0x7#4 → s.ports.rst = 0 → s.cancelQ = 0 → s.ports.cancel = 0 →
    s.outputs.pinRdO = 1) ∧
  (∀ s : State, s.lineS = 1 → exec .presence s = .next { s with
    rptStatus := 0b00#2, rptHum := 0, rptTemp := 0, rptChk := 0, rptCalc := 0, rptChkOk := 0,
    st := 0xD#4 }) ∧
  (∀ s : State, s.lineS = 0 → exec .presence s = .next { s with
    data := 0, chk := 0, bidx := 0, bwc := 0, st := 0x8#4 })

/-- R131: WAIT_HI, with one pin read in each cycle and BusyStay (R135) on the stay level High. -/
def Obligations.WaitHiBusyWaits : Prop :=
  decodeState 0x8#4 = .waitHi ∧
  (∀ s : State, s.st = 0x8#4 → s.ports.rst = 0 → s.cancelQ = 0 → s.ports.cancel = 0 →
    s.outputs.pinRdO = 1) ∧
  (∀ s : State, s.lineS = 0 → exec .waitHi s = .next { s with bwc := 0, st := 0x9#4 }) ∧
  (∀ s : State, s.lineS = 1 →
    (0 < s.params.busyGuard ∧ s.params.busyGuard ≤ s.bwc.toNat + 1) →
    exec .waitHi s = .next { s with
      rptStatus := 0b11#2, rptHum := 0, rptTemp := 0, rptChk := 0, rptCalc := 0, rptChkOk := 0,
      st := 0xD#4 }) ∧
  (∀ s : State, s.lineS = 1 →
    ¬ (0 < s.params.busyGuard ∧ s.params.busyGuard ≤ s.bwc.toNat + 1) →
    exec .waitHi s = .next { s with bwc := BitVec.ofNat 32 (s.bwc.toNat + 1) })

/-- R132: WAIT_LO, with one pin read in each cycle and BusyStay (R135) on the stay level Low. -/
def Obligations.WaitLoBusyWaits : Prop :=
  decodeState 0x9#4 = .waitLo ∧
  (∀ s : State, s.st = 0x9#4 → s.ports.rst = 0 → s.cancelQ = 0 → s.ports.cancel = 0 →
    s.outputs.pinRdO = 1) ∧
  (∀ s : State, s.lineS = 1 → exec .waitLo s = .next { s with
    bwc := 0, wcnt := BitVec.ofNat 32 (s.params.tBit * s.params.unitCycles), st := 0xA#4 }) ∧
  (∀ s : State, s.lineS = 0 →
    (0 < s.params.busyGuard ∧ s.params.busyGuard ≤ s.bwc.toNat + 1) →
    exec .waitLo s = .next { s with
      rptStatus := 0b11#2, rptHum := 0, rptTemp := 0, rptChk := 0, rptCalc := 0, rptChkOk := 0,
      st := 0xD#4 }) ∧
  (∀ s : State, s.lineS = 0 →
    ¬ (0 < s.params.busyGuard ∧ s.params.busyGuard ≤ s.bwc.toNat + 1) →
    exec .waitLo s = .next { s with bwc := BitVec.ofNat 32 (s.bwc.toNat + 1) })

/-- R134: SAMPLE, with one pin read. The sampled bit goes into the data field below index 32 and into the
checksum field from 32 on, most significant bit first; the 40th bit leads to CHECK. -/
def Obligations.SampleShiftsOneBit : Prop :=
  decodeState 0xB#4 = .sample ∧
  (∀ s : State, s.st = 0xB#4 → s.ports.rst = 0 → s.cancelQ = 0 → s.ports.cancel = 0 →
    s.outputs.pinRdO = 1) ∧
  (∀ s : State, s.bidx.toNat < 32 → exec .sample s = .next { s with
    data := BitVec.ofNat 32 (2 * s.data.toNat + s.lineS.toNat),
    bidx := s.bidx + 1, bwc := 0, st := 0x8#4 }) ∧
  (∀ s : State, 32 ≤ s.bidx.toNat → exec .sample s = .next { s with
    chk := BitVec.ofNat 8 (2 * s.chk.toNat + s.lineS.toNat),
    bidx := s.bidx + 1, bwc := 0, st := if s.bidx.toNat = 39 then 0xC#4 else 0x8#4 })

/-- R160: CHECK writes the six report registers from the accumulators at one edge. Which function ByteSum is,
is a statement of its own (`ByteSumIsSumOfBytes`). -/
def Obligations.CheckValidatesFrame : Prop :=
  decodeState 0xC#4 = .check ∧
  ∀ (s : State) (computed : Byte) (ok : Bit),
    computed = byteSum s.data →
    (ok = 1 ↔ computed = s.chk) →
    exec .check s = .next { s with
      rptHum := BitVec.ofNat 16 (s.data.toNat / 2 ^ 16), rptTemp := BitVec.ofNat 16 s.data.toNat,
      rptChk := s.chk, rptCalc := computed, rptChkOk := ok,
      rptStatus := if s.params.strictChecksum = 1 ∧ ok = 0 then 0b10#2 else 0b01#2,
      st := 0xD#4 }

/-- R167: in the REPORT cycle `rpt_valid_o = 1`, and the edge goes to ARM and changes nothing else. -/
def Obligations.ReportDeliversOnce : Prop :=
  decodeState 0xD#4 = .report ∧
  (∀ s : State, s.st = 0xD#4 → s.ports.rst = 0 → s.outputs.rptValidO = 1) ∧
  (∀ s : State, exec .report s = .next { s with st := 0x0#4 })

/-- R183: CANCELLED makes no assignment, and `stopped_o = 1` while it lasts. -/
def Obligations.CancelledKeepsEveryRegister : Prop :=
  decodeState 0xE#4 = .cancelled ∧
  (∀ s : State, exec .cancelled s = .next s) ∧
  (∀ s : State, s.st = 0xE#4 → s.ports.rst = 0 → s.outputs.stoppedO = 1)

/-- R184: the reserved code moves to CANCELLED and changes nothing but `st`. -/
def Obligations.ReservedCodeStops : Prop :=
  decodeState 0xF#4 = .reservedF ∧
  ∀ s : State, exec .reservedF s = .next { s with st := 0xE#4 }

/-- R88: under legal parameters each load of the wait counter is the product itself, with no truncation. -/
def Obligations.WaitLoadsFit : Prop :=
  ∀ s : State, s.params.Legal →
    (∃ t, exec .arm s = .next t ∧ t.wcnt.toNat = s.params.tInter * s.params.unitCycles) ∧
    (∃ t, exec .startHi s = .next t ∧ t.wcnt.toNat = s.params.tStart * s.params.unitCycles) ∧
    (∃ t, exec .release s = .next t ∧ t.wcnt.toNat = s.params.tResp * s.params.unitCycles) ∧
    (s.lineS = 1 →
      ∃ t, exec .waitLo s = .next t ∧ t.wcnt.toNat = s.params.tBit * s.params.unitCycles)

/-! ### The validator, the report and the outputs -/

/-- ByteSum (R161) is the sum of the four unsigned bytes, truncated to 8 bits. The spec marks the function as
its own choice, "[from general knowledge, not in source]" (log entry 11). -/
def Obligations.ByteSumIsSumOfBytes : Prop :=
  ∀ d3 d2 d1 d0 : Byte,
    (byteSum (d3 ++ d2 ++ d1 ++ d0)).toNat = (d3.toNat + d2.toNat + d1.toNat + d0.toNat) % 256

/-- R163: with `STRICT_CHECKSUM = 0` every assembled frame is Present, and the verdict is the flag alone;
with 1 a frame whose checksum differs is ChecksumMismatch, with its raw values still reported. -/
def Obligations.StrictSelectsOutcome : Prop :=
  ∀ s : State, ∃ t, exec .check s = .next t ∧
    (t.rptChkOk = 1 ↔ byteSum s.data = s.chk) ∧
    (s.params.strictChecksum = 0 → t.rptStatus = 0b01#2) ∧
    (s.params.strictChecksum = 1 → byteSum s.data ≠ s.chk → t.rptStatus = 0b10#2) ∧
    (s.params.strictChecksum = 1 → byteSum s.data = s.chk → t.rptStatus = 0b01#2) ∧
    t.rptHum ++ t.rptTemp = s.data

/-- R164: with `STRICT_CHECKSUM = 0` the outcome and the values do not depend on `chk`; only `rpt_chk`,
`rpt_calc` and `rpt_chk_ok` may. -/
def Obligations.ReferenceIgnoresChecksum : Prop :=
  ∀ (s : State) (k : Byte), s.params.strictChecksum = 0 →
    ∃ t u, exec .check s = .next t ∧ exec .check { s with chk := k } = .next u ∧
      u = { t with chk := k, rptChk := k, rptCalc := u.rptCalc, rptChkOk := u.rptChkOk }

/-- R165: a delivered Present report has the exact values `rpt_hum / 256` and `rpt_temp / 256`, unsigned, each
in `[0, 65535/256]`. -/
def Obligations.PresentReadingIsRawOver256 : Prop :=
  ∀ s : State, s.ports.rst = 0 → s.st = 0xD#4 → s.rptStatus = 0b01#2 →
    s.outputs.reading = some (.present ((s.rptHum.toNat : ℚ) / 256) ((s.rptTemp.toNat : ℚ) / 256)) ∧
    (0 ≤ (s.rptHum.toNat : ℚ) / 256 ∧ (s.rptHum.toNat : ℚ) / 256 ≤ 65535 / 256) ∧
    (0 ≤ (s.rptTemp.toNat : ℚ) / 256 ∧ (s.rptTemp.toNat : ℚ) / 256 ≤ 65535 / 256)

/-- R242: while `rst_i = 1` the three combinational outputs are 0, and after the edge the registered outputs
show the reset values. -/
def Obligations.ResetSilencesOutputs : Prop :=
  ∀ s : State, s.HasEngine → s.ports.rst = 1 →
    s.outputs.pinRdO = 0 ∧ s.outputs.rptValidO = 0 ∧ s.outputs.stoppedO = 0 ∧
    ∃ t, step s = .next t ∧ t.outputs.pinDirO = 0 ∧ t.outputs.pinPullO = 0b00#2 ∧
      t.outputs.pinOutO = 0 ∧ t.outputs.rptStatusO = 0b00#2 ∧ t.outputs.rptHumO = 0 ∧
      t.outputs.rptTempO = 0 ∧ t.outputs.rptChkO = 0 ∧ t.outputs.rptCalcO = 0 ∧
      t.outputs.rptChkOkO = 0 ∧ t.outputs.dbgStateO = 0x0#4

/-- R35: the combinational outputs, as functions of the registers and inputs of the cycle. -/
def Obligations.CombinationalOutputs : Prop :=
  ∀ s : State,
    (s.outputs.pinRdO = 1 ↔ s.ports.rst = 0 ∧ s.cancelQ = 0 ∧ s.ports.cancel = 0 ∧
      decodeState s.st ∈ [Instr.presence, .waitHi, .waitLo, .sample]) ∧
    (s.outputs.rptValidO = 1 ↔ s.ports.rst = 0 ∧ decodeState s.st = .report) ∧
    (s.outputs.stoppedO = 1 ↔ s.ports.rst = 0 ∧ decodeState s.st = .cancelled)

/-- R35, R139: a state whose rule performs no `PinSample()` does not depend on the line: changing the
synchroniser and the placed inputs changes nothing that the rule writes. -/
def Obligations.NonSamplingRulesIgnoreLine : Prop :=
  ∀ (i : Instr) (s t : State) (chain : List Bit) (placed : List Ports),
    i ∉ [Instr.presence, .waitHi, .waitLo, .sample] → exec i s = .next t →
    exec i { s with sync := chain, stimulus := placed } =
      .next { t with sync := chain, stimulus := placed }

/-! ### Rules of the whole machine -/

/-- The last column of R23: at an edge without reset, a register that changes was written by one of the states
listed for it, and the parameters never change. -/
def Obligations.OnlyListedStatesWrite : Prop :=
  ∀ s t : State, s.ports.rst = 0 → step s = .next t →
    t.params = s.params ∧
    (t.wcnt ≠ s.wcnt → decodeState s.st ∈
      [Instr.arm, .interWait, .startHi, .startWait, .release, .respWait, .waitLo, .bitWait]) ∧
    (t.bwc ≠ s.bwc → decodeState s.st ∈ [Instr.presence, .waitHi, .waitLo, .sample]) ∧
    (t.bidx ≠ s.bidx ∨ t.data ≠ s.data ∨ t.chk ≠ s.chk →
      decodeState s.st ∈ [Instr.presence, .sample]) ∧
    (t.pinDir ≠ s.pinDir → decodeState s.st ∈ [Instr.arm, .startHi, .release]) ∧
    (t.pinPull ≠ s.pinPull → decodeState s.st = .release) ∧
    (t.pinOut ≠ s.pinOut → decodeState s.st ∈ [Instr.arm, .startHi, .startLo])

/-- R34, R87: the report registers change only at an edge that enters REPORT, made by PRESENCE, WAIT_HI,
WAIT_LO or CHECK, and every such edge from PRESENCE writes Absent with zeros, from a busy-wait Timeout
with zeros. -/
def Obligations.ReportWrittenOnlyEnteringReport : Prop :=
  ∀ s t : State, s.ports.rst = 0 → step s = .next t →
    (¬ (t.rptStatus = s.rptStatus ∧ t.rptHum = s.rptHum ∧ t.rptTemp = s.rptTemp ∧
        t.rptChk = s.rptChk ∧ t.rptCalc = s.rptCalc ∧ t.rptChkOk = s.rptChkOk) → t.st = 0xD#4) ∧
    (t.st = 0xD#4 → decodeState s.st ∈ [Instr.presence, .waitHi, .waitLo, .check]) ∧
    (t.st = 0xD#4 → decodeState s.st = .presence → t.rptStatus = 0b00#2) ∧
    (t.st = 0xD#4 → decodeState s.st ∈ [Instr.waitHi, .waitLo] → t.rptStatus = 0b11#2) ∧
    (t.st = 0xD#4 → decodeState s.st ≠ .check →
      t.rptHum = 0 ∧ t.rptTemp = 0 ∧ t.rptChk = 0 ∧ t.rptCalc = 0 ∧ t.rptChkOk = 0)

/-- R182: without reset and cancellation the engine moves only along the loop ARM to REPORT to ARM. -/
def Obligations.PollerLoopSuccessors : Prop :=
  ∀ s t : State, s.ports.rst = 0 → s.cancelQ = 0 → s.ports.cancel = 0 → step s = .next t →
    decodeState t.st ∈ successors (decodeState s.st)

/-- R31, R205: at every edge without reset the latch takes `cancel_q or cancel_i`, so the first edge with
`cancel_i = 1` sets it, and nothing but reset clears it. -/
def Obligations.CancellationIsMonotonic : Prop :=
  (∀ s t : State, s.ports.rst = 0 → step s = .next t → t.cancelQ = s.cancelQ ||| s.ports.cancel) ∧
  (∀ s t : State, s.ports.rst = 0 → s.ports.cancel = 1 → step s = .next t → t.cancelQ = 1) ∧
  (∀ (n : Nat) (s t : State), NoReset s n → s.cancelQ = 1 → runFor n s = .next t → t.cancelQ = 1)

/-- R206, which the spec derives from R204: with `cancel_i = 1` first in cycle `c`, the edge ending cycle
`c` performs no state action and no pin read, and `st = CANCELLED` from cycle `c + 1` on. -/
def Obligations.CancellationHasZeroLatency : Prop :=
  ∀ (c n : Nat) (s : State), s.HasEngine → NoReset s (c + 1 + n) → (s.portsAt c).cancel = 1 →
    ∃ u t v, runFor c s = .next u ∧ runFor (c + 1) s = .next t ∧ runFor (c + 1 + n) s = .next v ∧
      t = { u with st := 0xE#4, cancelQ := 1, sync := t.sync, stimulus := t.stimulus, tick := t.tick } ∧
      readCount (c + 1) s = readCount c s ∧ v.st = 0xE#4

/-- R219, R220: in CANCELLED, until reset, nothing but the synchroniser chain and the latch changes, there is
no pin read and no report, and `stopped_o = 1` in every cycle. -/
def Obligations.CancelledIsQuiescent : Prop :=
  ∀ (n : Nat) (s : State), s.HasEngine → NoReset s n → s.st = 0xE#4 →
    (∃ t, runFor n s = .next t ∧
      t = { s with
        cancelQ := t.cancelQ, sync := t.sync, stimulus := t.stimulus, tick := t.tick }) ∧
    readCount n s = 0 ∧ reportCount n s = 0 ∧ ∀ o ∈ observe n s, o.stoppedO = 1

/-- R33, R73, which the spec derives from R32: without reset, `line_s` is `pin_in_i` as it was `SYNC_STAGES`
cycles before, and `pin_in_i` itself when there is no stage. -/
def Obligations.LineIsPadDelayed : Prop :=
  (∀ s : State, s.params.syncStages = 0 → s.lineS = s.ports.pinIn) ∧
  (∀ s : State, s.HasEngine → 0 < s.params.syncStages →
    s.sync[s.params.syncStages - 1]? = some s.lineS) ∧
  (∀ (n : Nat) (s t : State), s.HasEngine → NoReset s (n + s.params.syncStages) →
    runFor (n + s.params.syncStages) s = .next t → t.lineS = (s.portsAt n).pinIn)

/-- R245, by the spec's own inference: within the legal range of `SYNC_STAGES` no sample returns the reset
value of the synchroniser: there is no pin read in the seven cycles from reset on. -/
def Obligations.NoSampleBeforeChainIsFilled : Prop :=
  ∀ (p : Params) (placed : List Ports) (k n : Nat) (t : State), p.Legal → n < 7 →
    NoReset { State.resetOf p with stimulus := placed, tick := k } n →
    runFor n { State.resetOf p with stimulus := placed, tick := k } = .next t → t.pinRd = 0

/-- An engine with legal parameters always takes its next edge: no fault, no refusal, in any number of cycles
(R90, R212, R244). -/
def Obligations.EngineNeverStops : Prop :=
  ∀ (n : Nat) (s : State), s.HasEngine →
    ∃ t, runFor n s = .next t ∧ t.HasEngine ∧ t.params = s.params

/-! ### The invariant -/

/-- The reset state of every legal instance has the invariant, whatever the inputs. -/
def Obligations.ResetHasEngineInv : Prop :=
  ∀ (p : Params) (placed : List Ports) (k : Nat), p.Legal →
    EngineInv { State.resetOf p with stimulus := placed, tick := k }

/-- Every step keeps the invariant: the wait counter in its range (R44), the bit index (R25, R141), the guard
(R135), the pins of each state (R116), the codes never reached (R91), the latch, and the report
registers' agreement with their outcome and frame (R87, R162). -/
def Obligations.StepKeepsEngineInv : Prop :=
  ∀ s t : State, EngineInv s → step s = .next t → EngineInv t

/-- R43, by the spec's own inference: every `PinSample()` happens while the direction is Input. -/
def Obligations.SamplesOnlyWhileInput : Prop :=
  ∀ s : State, EngineInv s → s.outputs.pinRdO = 1 → s.outputs.pinDirO = 0

/-- R183, by the spec's own inference from R116: where cancellation leaves the pin, by the state in which it
is first seen: driven High, driven Low in RELEASE alone, or released. -/
def Obligations.CancellationLeavesPin : Prop :=
  ∀ s t : State, EngineInv s → s.ports.rst = 0 → s.ports.cancel = 1 → s.st ≠ 0xE#4 →
    step s = .next t →
    (decodeState s.st ∈ [Instr.interWait, .startHi, .startWait, .startLo] →
      t.pinDir = 1 ∧ t.pinOut = 1) ∧
    (decodeState s.st = .release → t.pinDir = 1 ∧ t.pinOut = 0) ∧
    (decodeState s.st ∈ [Instr.arm, .respWait, .presence, .waitHi, .waitLo, .bitWait, .sample,
      .check, .report] → t.pinDir = 0)

/-! ### Many cycles -/

/-- R115: the countdown law of the four wait states, and the consequence the spec derives: a wait state
entered with `wcnt = K`, `K >= 1`, occupies exactly `K` cycles and then moves to its successor. -/
def Obligations.WaitStateOccupiesItsCount : Prop :=
  ∀ (wait next : Instr) (s : State),
    (wait, next) ∈ [(Instr.interWait, Instr.startHi), (.startWait, .startLo), (.respWait, .presence),
      (.bitWait, .sample)] →
    exec wait s = (if s.wcnt.toNat ≤ 1 then .next { s with wcnt := 0, st := next.code }
      else .next { s with wcnt := s.wcnt - 1 }) ∧
    (s.HasEngine → s.st = wait.code → 1 ≤ s.wcnt.toNat → Quiet s s.wcnt.toNat →
      trace s.wcnt.toNat s = List.replicate s.wcnt.toNat wait ∧
      ∃ t, runFor s.wcnt.toNat s = .next t ∧ t.st = next.code ∧ t.wcnt = 0 ∧
        t = { s with
          st := t.st, wcnt := t.wcnt, sync := t.sync, stimulus := t.stimulus, tick := t.tick })

/-- R140: with `BUSY_GUARD = 0`, a line held at the stay level keeps the engine in the busy-wait for as long
as it is held, with one pin read a cycle and no report. -/
def Obligations.StuckLineHangs : Prop :=
  ∀ (n : Nat) (s : State), s.HasEngine → s.params.busyGuard = 0 → Quiet s n →
    (s.st = 0x8#4 ∧ (∀ j < n, lineAt s j = 1)) ∨ (s.st = 0x9#4 ∧ (∀ j < n, lineAt s j = 0)) →
    (∃ t, runFor n s = .next t ∧ t.st = s.st ∧ t.bwc = s.bwc + BitVec.ofNat 32 n) ∧
    readCount n s = n ∧ reportCount n s = 0

/-- R135: BusyStay as given, and the bound the spec derives: with `BUSY_GUARD = G > 0`, a busy-wait entered
with `bwc = 0` whose line stays at the stay level performs `G` stay-samples, the last of which ends the
decode with Timeout. -/
def Obligations.GuardEndsBusyWait : Prop :=
  (∀ s : State, s.busyStay =
    if 0 < s.params.busyGuard ∧ s.params.busyGuard ≤ s.bwc.toNat + 1 then { s with
      rptStatus := 0b11#2, rptHum := 0, rptTemp := 0, rptChk := 0, rptCalc := 0, rptChkOk := 0,
      st := 0xD#4 }
    else { s with bwc := BitVec.ofNat 32 (s.bwc.toNat + 1) }) ∧
  (∀ s : State, (s.lineS = 1 → exec .waitHi s = .next s.busyStay) ∧
    (s.lineS = 0 → exec .waitLo s = .next s.busyStay)) ∧
  (∀ s : State, s.HasEngine → 0 < s.params.busyGuard → s.bwc = 0 → Quiet s s.params.busyGuard →
    (s.st = 0x8#4 ∧ (∀ j < s.params.busyGuard, lineAt s j = 1)) ∨
      (s.st = 0x9#4 ∧ (∀ j < s.params.busyGuard, lineAt s j = 0)) →
    trace s.params.busyGuard s = List.replicate s.params.busyGuard (decodeState s.st) ∧
    readCount s.params.busyGuard s = s.params.busyGuard ∧
    ∃ t, runFor s.params.busyGuard s = .next t ∧ t.st = 0xD#4 ∧ t.rptStatus = 0b11#2 ∧
      t.rptHum = 0 ∧ t.rptTemp = 0 ∧ t.rptChk = 0 ∧ t.rptCalc = 0 ∧ t.rptChkOk = 0)

/-- R136, by the spec's own inference: a field of width `W` that receives the bits `b_1 ... b_k` from the
value `a` holds `(a * 2^k + sum b_i * 2^(k-i)) mod 2^W`, and for `k = W` the sum itself, whatever `a` was.
-/
def Obligations.ShiftAccumulateLaw : Prop :=
  (∀ (W : Nat) (a : BitVec W) (bits : List Bit),
    (bits.foldl shiftIn a).toNat =
      (a.toNat * 2 ^ bits.length +
        ∑ i : Fin bits.length, (bits.get i).toNat * 2 ^ (bits.length - 1 - i.val)) % 2 ^ W) ∧
  (∀ (W : Nat) (a : BitVec W) (bits : List Bit), bits.length = W →
    (bits.foldl shiftIn a).toNat =
      ∑ i : Fin bits.length, (bits.get i).toNat * 2 ^ (bits.length - 1 - i.val))

/-- R142, which the spec marks as derived: when the WAIT_LO sample reads High in this cycle, SAMPLE is
`T_BIT*U + 1` cycles later, and the bit it shifts in, into the data field or the checksum field, is `line_s`
of that cycle. -/
def Obligations.BitIsSampledAfterSettle : Prop :=
  ∀ s : State, s.HasEngine → s.st = 0x9#4 → s.lineS = 1 →
    Quiet s (s.params.tBit * s.params.unitCycles + 2) →
    ∃ t u, runFor (s.params.tBit * s.params.unitCycles + 1) s = .next t ∧ t.st = 0xB#4 ∧
      t.data = s.data ∧ t.chk = s.chk ∧
      t.lineS = lineAt s (s.params.tBit * s.params.unitCycles + 1) ∧
      runFor (s.params.tBit * s.params.unitCycles + 2) s = .next u ∧
      (s.bidx.toNat < 32 →
        u.data.toNat = (2 * s.data.toNat + t.lineS.toNat) % 2 ^ 32 ∧ u.chk = s.chk) ∧
      (32 ≤ s.bidx.toNat →
        u.chk.toNat = (2 * s.chk.toNat + t.lineS.toNat) % 2 ^ 8 ∧ u.data = s.data)

/-- The four states of one bit (R95, R139): WAIT_HI for `h` cycles, WAIT_LO for `l`, the settle delay and
SAMPLE, with `h + l + 1` pin reads; the bit is shifted into the field that `bidx` selects, and the pins
and the report registers are as before. -/
def Obligations.OneBitIsAssembled : Prop :=
  ∀ (s : State) (b : Pulse), s.HasEngine → s.st = 0x8#4 → s.bwc = 0 → s.bidx.toNat < 40 →
    Quiet s (b.cycles s.params) → PulseAt s 0 b →
    trace (b.cycles s.params) s = traceOfPulse s.params b ∧
    readCount (b.cycles s.params) s = b.hi + b.lo + 1 ∧
    ∃ t, runFor (b.cycles s.params) s = .next t ∧
      t = { s with
        st := if s.bidx.toNat = 39 then 0xC#4 else 0x8#4
        wcnt := 0
        bidx := s.bidx + 1
        data := if s.bidx.toNat < 32 then BitVec.ofNat 32 (2 * s.data.toNat + b.value.toNat) else s.data
        chk := if s.bidx.toNat < 32 then s.chk else BitVec.ofNat 8 (2 * s.chk.toNat + b.value.toNat)
        sync := t.sync, stimulus := t.stimulus, tick := t.tick }

/-- The Absent poller cycle (R95, R96, R139, R185, R201): from ARM, if the line reads High in the PRESENCE
cycle, the engine runs POLL_CYCLE without bits in `6 + (T_INTER + T_START + T_RESP) * U` cycles, with one
pin read and one report, Absent with zeros, and is back in ARM. -/
def Obligations.AbsentPollCycle : Prop :=
  ∀ (s : State) (n : Nat),
    n = 6 + (s.params.tInter + s.params.tStart + s.params.tResp) * s.params.unitCycles →
    s.HasEngine → s.st = 0x0#4 → Quiet s n → lineAt s (n - 2) = 1 →
    trace n s = tracePollCycle s.params none ∧ readCount n s = 1 ∧ reportCount n s = 1 ∧
    ∃ t u, runFor (n - 1) s = .next t ∧ t.st = 0xD#4 ∧ t.outputs.reading = some .absent ∧
      t.rptHum = 0 ∧ t.rptTemp = 0 ∧ t.rptChk = 0 ∧ t.rptCalc = 0 ∧ t.rptChkOk = 0 ∧
      runFor n s = .next u ∧ u.st = 0x0#4

/-- The poller cycle of an assembled frame (R63, R95, R96, R139, R160, R185, and the round-trip law E4): from
ARM, if the line reads Low in the PRESENCE cycle and then carries the 40 bits of `frame`, the engine runs
POLL_CYCLE with its bits, reports once, with `rpt_hum = frame[39:24]`, `rpt_temp = frame[23:8]` and
`rpt_chk = frame[7:0]`, and is back in ARM. -/
def Obligations.FramePollCycle : Prop :=
  ∀ (s : State) (frame : BitVec 40) (bs : List Pulse) (c n : Nat),
    c = 4 + (s.params.tInter + s.params.tStart + s.params.tResp) * s.params.unitCycles →
    n = c + 1 + pulsesCycles s.params bs + 2 →
    s.HasEngine → s.st = 0x0#4 → Quiet s n → lineAt s c = 0 →
    PulsesAt s (c + 1) bs → CarriesFrame bs frame →
    trace n s = tracePollCycle s.params (some bs) ∧
    readCount n s = 1 + (bs.map fun b => b.hi + b.lo + 1).sum ∧ reportCount n s = 1 ∧
    ∃ t u, runFor (n - 1) s = .next t ∧ t.st = 0xD#4 ∧ t.outputs.rptValidO = 1 ∧
      t.rptHum = frame.extractLsb' 24 16 ∧ t.rptTemp = frame.extractLsb' 8 16 ∧
      t.rptChk = frame.extractLsb' 0 8 ∧ t.rptCalc = byteSum (frame.extractLsb' 8 32) ∧
      (t.rptChkOk = 1 ↔ t.rptCalc = t.rptChk) ∧
      t.rptStatus = (if s.params.strictChecksum = 1 ∧ t.rptChkOk = 0 then 0b10#2 else 0b01#2) ∧
      runFor n s = .next u ∧ u.st = 0x0#4
end

