-- ==== Sys2Proof/Laws/State.lean ====
section
/-! SUPPORT. One lemma per field per writer of the state, true by unfolding the writer once: later proofs
cite these and unfold no record update. -/

namespace Sys2Proof.Machine

variable (s : State)

/-! ### `goTo` -/

@[simp] theorem State.goTo_params (i : Instr) : (s.goTo i).params = s.params := rfl
@[simp] theorem State.goTo_st (i : Instr) : (s.goTo i).st = i.code := rfl
@[simp] theorem State.goTo_wcnt (i : Instr) : (s.goTo i).wcnt = s.wcnt := rfl
@[simp] theorem State.goTo_bwc (i : Instr) : (s.goTo i).bwc = s.bwc := rfl
@[simp] theorem State.goTo_bidx (i : Instr) : (s.goTo i).bidx = s.bidx := rfl
@[simp] theorem State.goTo_data (i : Instr) : (s.goTo i).data = s.data := rfl
@[simp] theorem State.goTo_chk (i : Instr) : (s.goTo i).chk = s.chk := rfl
@[simp] theorem State.goTo_pinDir (i : Instr) : (s.goTo i).pinDir = s.pinDir := rfl
@[simp] theorem State.goTo_pinPull (i : Instr) : (s.goTo i).pinPull = s.pinPull := rfl
@[simp] theorem State.goTo_pinOut (i : Instr) : (s.goTo i).pinOut = s.pinOut := rfl
@[simp] theorem State.goTo_cancelQ (i : Instr) : (s.goTo i).cancelQ = s.cancelQ := rfl
@[simp] theorem State.goTo_sync (i : Instr) : (s.goTo i).sync = s.sync := rfl
@[simp] theorem State.goTo_rptStatus (i : Instr) : (s.goTo i).rptStatus = s.rptStatus := rfl
@[simp] theorem State.goTo_rptHum (i : Instr) : (s.goTo i).rptHum = s.rptHum := rfl
@[simp] theorem State.goTo_rptTemp (i : Instr) : (s.goTo i).rptTemp = s.rptTemp := rfl
@[simp] theorem State.goTo_rptChk (i : Instr) : (s.goTo i).rptChk = s.rptChk := rfl
@[simp] theorem State.goTo_rptCalc (i : Instr) : (s.goTo i).rptCalc = s.rptCalc := rfl
@[simp] theorem State.goTo_rptChkOk (i : Instr) : (s.goTo i).rptChkOk = s.rptChkOk := rfl
@[simp] theorem State.goTo_stimulus (i : Instr) : (s.goTo i).stimulus = s.stimulus := rfl
@[simp] theorem State.goTo_tick (i : Instr) : (s.goTo i).tick = s.tick := rfl
@[simp] theorem State.goTo_portsAt (i : Instr) (j : Nat) : (s.goTo i).portsAt j = s.portsAt j := rfl
@[simp] theorem State.goTo_ports (i : Instr) : (s.goTo i).ports = s.ports := rfl
@[simp] theorem State.goTo_cx (i : Instr) : (s.goTo i).cx = s.cx := rfl
@[simp] theorem State.goTo_lineS (i : Instr) : (s.goTo i).lineS = s.lineS := rfl
@[simp] theorem State.goTo_shiftedSync (i : Instr) : (s.goTo i).shiftedSync = s.shiftedSync := rfl
@[simp] theorem State.goTo_waitCycles (i : Instr) (n : Nat) : (s.goTo i).waitCycles n = s.waitCycles n := rfl

/-! ### `setWcnt` -/

@[simp] theorem State.setWcnt_params (v : Word) : (s.setWcnt v).params = s.params := rfl
@[simp] theorem State.setWcnt_st (v : Word) : (s.setWcnt v).st = s.st := rfl
@[simp] theorem State.setWcnt_wcnt (v : Word) : (s.setWcnt v).wcnt = v := rfl
@[simp] theorem State.setWcnt_bwc (v : Word) : (s.setWcnt v).bwc = s.bwc := rfl
@[simp] theorem State.setWcnt_bidx (v : Word) : (s.setWcnt v).bidx = s.bidx := rfl
@[simp] theorem State.setWcnt_data (v : Word) : (s.setWcnt v).data = s.data := rfl
@[simp] theorem State.setWcnt_chk (v : Word) : (s.setWcnt v).chk = s.chk := rfl
@[simp] theorem State.setWcnt_pinDir (v : Word) : (s.setWcnt v).pinDir = s.pinDir := rfl
@[simp] theorem State.setWcnt_pinPull (v : Word) : (s.setWcnt v).pinPull = s.pinPull := rfl
@[simp] theorem State.setWcnt_pinOut (v : Word) : (s.setWcnt v).pinOut = s.pinOut := rfl
@[simp] theorem State.setWcnt_cancelQ (v : Word) : (s.setWcnt v).cancelQ = s.cancelQ := rfl
@[simp] theorem State.setWcnt_sync (v : Word) : (s.setWcnt v).sync = s.sync := rfl
@[simp] theorem State.setWcnt_rptStatus (v : Word) : (s.setWcnt v).rptStatus = s.rptStatus := rfl
@[simp] theorem State.setWcnt_rptHum (v : Word) : (s.setWcnt v).rptHum = s.rptHum := rfl
@[simp] theorem State.setWcnt_rptTemp (v : Word) : (s.setWcnt v).rptTemp = s.rptTemp := rfl
@[simp] theorem State.setWcnt_rptChk (v : Word) : (s.setWcnt v).rptChk = s.rptChk := rfl
@[simp] theorem State.setWcnt_rptCalc (v : Word) : (s.setWcnt v).rptCalc = s.rptCalc := rfl
@[simp] theorem State.setWcnt_rptChkOk (v : Word) : (s.setWcnt v).rptChkOk = s.rptChkOk := rfl
@[simp] theorem State.setWcnt_stimulus (v : Word) : (s.setWcnt v).stimulus = s.stimulus := rfl
@[simp] theorem State.setWcnt_tick (v : Word) : (s.setWcnt v).tick = s.tick := rfl
@[simp] theorem State.setWcnt_portsAt (v : Word) (j : Nat) : (s.setWcnt v).portsAt j = s.portsAt j := rfl
@[simp] theorem State.setWcnt_ports (v : Word) : (s.setWcnt v).ports = s.ports := rfl
@[simp] theorem State.setWcnt_cx (v : Word) : (s.setWcnt v).cx = s.cx := rfl
@[simp] theorem State.setWcnt_lineS (v : Word) : (s.setWcnt v).lineS = s.lineS := rfl
@[simp] theorem State.setWcnt_shiftedSync (v : Word) : (s.setWcnt v).shiftedSync = s.shiftedSync := rfl
@[simp] theorem State.setWcnt_waitCycles (v : Word) (n : Nat) : (s.setWcnt v).waitCycles n = s.waitCycles n := rfl

/-! ### `setBwc` -/

@[simp] theorem State.setBwc_params (v : Word) : (s.setBwc v).params = s.params := rfl
@[simp] theorem State.setBwc_st (v : Word) : (s.setBwc v).st = s.st := rfl
@[simp] theorem State.setBwc_wcnt (v : Word) : (s.setBwc v).wcnt = s.wcnt := rfl
@[simp] theorem State.setBwc_bwc (v : Word) : (s.setBwc v).bwc = v := rfl
@[simp] theorem State.setBwc_bidx (v : Word) : (s.setBwc v).bidx = s.bidx := rfl
@[simp] theorem State.setBwc_data (v : Word) : (s.setBwc v).data = s.data := rfl
@[simp] theorem State.setBwc_chk (v : Word) : (s.setBwc v).chk = s.chk := rfl
@[simp] theorem State.setBwc_pinDir (v : Word) : (s.setBwc v).pinDir = s.pinDir := rfl
@[simp] theorem State.setBwc_pinPull (v : Word) : (s.setBwc v).pinPull = s.pinPull := rfl
@[simp] theorem State.setBwc_pinOut (v : Word) : (s.setBwc v).pinOut = s.pinOut := rfl
@[simp] theorem State.setBwc_cancelQ (v : Word) : (s.setBwc v).cancelQ = s.cancelQ := rfl
@[simp] theorem State.setBwc_sync (v : Word) : (s.setBwc v).sync = s.sync := rfl
@[simp] theorem State.setBwc_rptStatus (v : Word) : (s.setBwc v).rptStatus = s.rptStatus := rfl
@[simp] theorem State.setBwc_rptHum (v : Word) : (s.setBwc v).rptHum = s.rptHum := rfl
@[simp] theorem State.setBwc_rptTemp (v : Word) : (s.setBwc v).rptTemp = s.rptTemp := rfl
@[simp] theorem State.setBwc_rptChk (v : Word) : (s.setBwc v).rptChk = s.rptChk := rfl
@[simp] theorem State.setBwc_rptCalc (v : Word) : (s.setBwc v).rptCalc = s.rptCalc := rfl
@[simp] theorem State.setBwc_rptChkOk (v : Word) : (s.setBwc v).rptChkOk = s.rptChkOk := rfl
@[simp] theorem State.setBwc_stimulus (v : Word) : (s.setBwc v).stimulus = s.stimulus := rfl
@[simp] theorem State.setBwc_tick (v : Word) : (s.setBwc v).tick = s.tick := rfl
@[simp] theorem State.setBwc_portsAt (v : Word) (j : Nat) : (s.setBwc v).portsAt j = s.portsAt j := rfl
@[simp] theorem State.setBwc_ports (v : Word) : (s.setBwc v).ports = s.ports := rfl
@[simp] theorem State.setBwc_cx (v : Word) : (s.setBwc v).cx = s.cx := rfl
@[simp] theorem State.setBwc_lineS (v : Word) : (s.setBwc v).lineS = s.lineS := rfl
@[simp] theorem State.setBwc_shiftedSync (v : Word) : (s.setBwc v).shiftedSync = s.shiftedSync := rfl
@[simp] theorem State.setBwc_waitCycles (v : Word) (n : Nat) : (s.setBwc v).waitCycles n = s.waitCycles n := rfl

/-! ### `setBidx` -/

@[simp] theorem State.setBidx_params (v : BitVec 6) : (s.setBidx v).params = s.params := rfl
@[simp] theorem State.setBidx_st (v : BitVec 6) : (s.setBidx v).st = s.st := rfl
@[simp] theorem State.setBidx_wcnt (v : BitVec 6) : (s.setBidx v).wcnt = s.wcnt := rfl
@[simp] theorem State.setBidx_bwc (v : BitVec 6) : (s.setBidx v).bwc = s.bwc := rfl
@[simp] theorem State.setBidx_bidx (v : BitVec 6) : (s.setBidx v).bidx = v := rfl
@[simp] theorem State.setBidx_data (v : BitVec 6) : (s.setBidx v).data = s.data := rfl
@[simp] theorem State.setBidx_chk (v : BitVec 6) : (s.setBidx v).chk = s.chk := rfl
@[simp] theorem State.setBidx_pinDir (v : BitVec 6) : (s.setBidx v).pinDir = s.pinDir := rfl
@[simp] theorem State.setBidx_pinPull (v : BitVec 6) : (s.setBidx v).pinPull = s.pinPull := rfl
@[simp] theorem State.setBidx_pinOut (v : BitVec 6) : (s.setBidx v).pinOut = s.pinOut := rfl
@[simp] theorem State.setBidx_cancelQ (v : BitVec 6) : (s.setBidx v).cancelQ = s.cancelQ := rfl
@[simp] theorem State.setBidx_sync (v : BitVec 6) : (s.setBidx v).sync = s.sync := rfl
@[simp] theorem State.setBidx_rptStatus (v : BitVec 6) : (s.setBidx v).rptStatus = s.rptStatus := rfl
@[simp] theorem State.setBidx_rptHum (v : BitVec 6) : (s.setBidx v).rptHum = s.rptHum := rfl
@[simp] theorem State.setBidx_rptTemp (v : BitVec 6) : (s.setBidx v).rptTemp = s.rptTemp := rfl
@[simp] theorem State.setBidx_rptChk (v : BitVec 6) : (s.setBidx v).rptChk = s.rptChk := rfl
@[simp] theorem State.setBidx_rptCalc (v : BitVec 6) : (s.setBidx v).rptCalc = s.rptCalc := rfl
@[simp] theorem State.setBidx_rptChkOk (v : BitVec 6) : (s.setBidx v).rptChkOk = s.rptChkOk := rfl
@[simp] theorem State.setBidx_stimulus (v : BitVec 6) : (s.setBidx v).stimulus = s.stimulus := rfl
@[simp] theorem State.setBidx_tick (v : BitVec 6) : (s.setBidx v).tick = s.tick := rfl
@[simp] theorem State.setBidx_portsAt (v : BitVec 6) (j : Nat) : (s.setBidx v).portsAt j = s.portsAt j := rfl
@[simp] theorem State.setBidx_ports (v : BitVec 6) : (s.setBidx v).ports = s.ports := rfl
@[simp] theorem State.setBidx_cx (v : BitVec 6) : (s.setBidx v).cx = s.cx := rfl
@[simp] theorem State.setBidx_lineS (v : BitVec 6) : (s.setBidx v).lineS = s.lineS := rfl
@[simp] theorem State.setBidx_shiftedSync (v : BitVec 6) : (s.setBidx v).shiftedSync = s.shiftedSync := rfl
@[simp] theorem State.setBidx_waitCycles (v : BitVec 6) (n : Nat) : (s.setBidx v).waitCycles n = s.waitCycles n := rfl

/-! ### `setData` -/

@[simp] theorem State.setData_params (v : Word) : (s.setData v).params = s.params := rfl
@[simp] theorem State.setData_st (v : Word) : (s.setData v).st = s.st := rfl
@[simp] theorem State.setData_wcnt (v : Word) : (s.setData v).wcnt = s.wcnt := rfl
@[simp] theorem State.setData_bwc (v : Word) : (s.setData v).bwc = s.bwc := rfl
@[simp] theorem State.setData_bidx (v : Word) : (s.setData v).bidx = s.bidx := rfl
@[simp] theorem State.setData_data (v : Word) : (s.setData v).data = v := rfl
@[simp] theorem State.setData_chk (v : Word) : (s.setData v).chk = s.chk := rfl
@[simp] theorem State.setData_pinDir (v : Word) : (s.setData v).pinDir = s.pinDir := rfl
@[simp] theorem State.setData_pinPull (v : Word) : (s.setData v).pinPull = s.pinPull := rfl
@[simp] theorem State.setData_pinOut (v : Word) : (s.setData v).pinOut = s.pinOut := rfl
@[simp] theorem State.setData_cancelQ (v : Word) : (s.setData v).cancelQ = s.cancelQ := rfl
@[simp] theorem State.setData_sync (v : Word) : (s.setData v).sync = s.sync := rfl
@[simp] theorem State.setData_rptStatus (v : Word) : (s.setData v).rptStatus = s.rptStatus := rfl
@[simp] theorem State.setData_rptHum (v : Word) : (s.setData v).rptHum = s.rptHum := rfl
@[simp] theorem State.setData_rptTemp (v : Word) : (s.setData v).rptTemp = s.rptTemp := rfl
@[simp] theorem State.setData_rptChk (v : Word) : (s.setData v).rptChk = s.rptChk := rfl
@[simp] theorem State.setData_rptCalc (v : Word) : (s.setData v).rptCalc = s.rptCalc := rfl
@[simp] theorem State.setData_rptChkOk (v : Word) : (s.setData v).rptChkOk = s.rptChkOk := rfl
@[simp] theorem State.setData_stimulus (v : Word) : (s.setData v).stimulus = s.stimulus := rfl
@[simp] theorem State.setData_tick (v : Word) : (s.setData v).tick = s.tick := rfl
@[simp] theorem State.setData_portsAt (v : Word) (j : Nat) : (s.setData v).portsAt j = s.portsAt j := rfl
@[simp] theorem State.setData_ports (v : Word) : (s.setData v).ports = s.ports := rfl
@[simp] theorem State.setData_cx (v : Word) : (s.setData v).cx = s.cx := rfl
@[simp] theorem State.setData_lineS (v : Word) : (s.setData v).lineS = s.lineS := rfl
@[simp] theorem State.setData_shiftedSync (v : Word) : (s.setData v).shiftedSync = s.shiftedSync := rfl
@[simp] theorem State.setData_waitCycles (v : Word) (n : Nat) : (s.setData v).waitCycles n = s.waitCycles n := rfl

/-! ### `setChk` -/

@[simp] theorem State.setChk_params (v : Byte) : (s.setChk v).params = s.params := rfl
@[simp] theorem State.setChk_st (v : Byte) : (s.setChk v).st = s.st := rfl
@[simp] theorem State.setChk_wcnt (v : Byte) : (s.setChk v).wcnt = s.wcnt := rfl
@[simp] theorem State.setChk_bwc (v : Byte) : (s.setChk v).bwc = s.bwc := rfl
@[simp] theorem State.setChk_bidx (v : Byte) : (s.setChk v).bidx = s.bidx := rfl
@[simp] theorem State.setChk_data (v : Byte) : (s.setChk v).data = s.data := rfl
@[simp] theorem State.setChk_chk (v : Byte) : (s.setChk v).chk = v := rfl
@[simp] theorem State.setChk_pinDir (v : Byte) : (s.setChk v).pinDir = s.pinDir := rfl
@[simp] theorem State.setChk_pinPull (v : Byte) : (s.setChk v).pinPull = s.pinPull := rfl
@[simp] theorem State.setChk_pinOut (v : Byte) : (s.setChk v).pinOut = s.pinOut := rfl
@[simp] theorem State.setChk_cancelQ (v : Byte) : (s.setChk v).cancelQ = s.cancelQ := rfl
@[simp] theorem State.setChk_sync (v : Byte) : (s.setChk v).sync = s.sync := rfl
@[simp] theorem State.setChk_rptStatus (v : Byte) : (s.setChk v).rptStatus = s.rptStatus := rfl
@[simp] theorem State.setChk_rptHum (v : Byte) : (s.setChk v).rptHum = s.rptHum := rfl
@[simp] theorem State.setChk_rptTemp (v : Byte) : (s.setChk v).rptTemp = s.rptTemp := rfl
@[simp] theorem State.setChk_rptChk (v : Byte) : (s.setChk v).rptChk = s.rptChk := rfl
@[simp] theorem State.setChk_rptCalc (v : Byte) : (s.setChk v).rptCalc = s.rptCalc := rfl
@[simp] theorem State.setChk_rptChkOk (v : Byte) : (s.setChk v).rptChkOk = s.rptChkOk := rfl
@[simp] theorem State.setChk_stimulus (v : Byte) : (s.setChk v).stimulus = s.stimulus := rfl
@[simp] theorem State.setChk_tick (v : Byte) : (s.setChk v).tick = s.tick := rfl
@[simp] theorem State.setChk_portsAt (v : Byte) (j : Nat) : (s.setChk v).portsAt j = s.portsAt j := rfl
@[simp] theorem State.setChk_ports (v : Byte) : (s.setChk v).ports = s.ports := rfl
@[simp] theorem State.setChk_cx (v : Byte) : (s.setChk v).cx = s.cx := rfl
@[simp] theorem State.setChk_lineS (v : Byte) : (s.setChk v).lineS = s.lineS := rfl
@[simp] theorem State.setChk_shiftedSync (v : Byte) : (s.setChk v).shiftedSync = s.shiftedSync := rfl
@[simp] theorem State.setChk_waitCycles (v : Byte) (n : Nat) : (s.setChk v).waitCycles n = s.waitCycles n := rfl

/-! ### `pinDirTo` -/

@[simp] theorem State.pinDirTo_params (d : PinDir) : (s.pinDirTo d).params = s.params := rfl
@[simp] theorem State.pinDirTo_st (d : PinDir) : (s.pinDirTo d).st = s.st := rfl
@[simp] theorem State.pinDirTo_wcnt (d : PinDir) : (s.pinDirTo d).wcnt = s.wcnt := rfl
@[simp] theorem State.pinDirTo_bwc (d : PinDir) : (s.pinDirTo d).bwc = s.bwc := rfl
@[simp] theorem State.pinDirTo_bidx (d : PinDir) : (s.pinDirTo d).bidx = s.bidx := rfl
@[simp] theorem State.pinDirTo_data (d : PinDir) : (s.pinDirTo d).data = s.data := rfl
@[simp] theorem State.pinDirTo_chk (d : PinDir) : (s.pinDirTo d).chk = s.chk := rfl
@[simp] theorem State.pinDirTo_pinDir (d : PinDir) : (s.pinDirTo d).pinDir = d.code := rfl
@[simp] theorem State.pinDirTo_pinPull (d : PinDir) : (s.pinDirTo d).pinPull = s.pinPull := rfl
@[simp] theorem State.pinDirTo_pinOut (d : PinDir) : (s.pinDirTo d).pinOut = s.pinOut := rfl
@[simp] theorem State.pinDirTo_cancelQ (d : PinDir) : (s.pinDirTo d).cancelQ = s.cancelQ := rfl
@[simp] theorem State.pinDirTo_sync (d : PinDir) : (s.pinDirTo d).sync = s.sync := rfl
@[simp] theorem State.pinDirTo_rptStatus (d : PinDir) : (s.pinDirTo d).rptStatus = s.rptStatus := rfl
@[simp] theorem State.pinDirTo_rptHum (d : PinDir) : (s.pinDirTo d).rptHum = s.rptHum := rfl
@[simp] theorem State.pinDirTo_rptTemp (d : PinDir) : (s.pinDirTo d).rptTemp = s.rptTemp := rfl
@[simp] theorem State.pinDirTo_rptChk (d : PinDir) : (s.pinDirTo d).rptChk = s.rptChk := rfl
@[simp] theorem State.pinDirTo_rptCalc (d : PinDir) : (s.pinDirTo d).rptCalc = s.rptCalc := rfl
@[simp] theorem State.pinDirTo_rptChkOk (d : PinDir) : (s.pinDirTo d).rptChkOk = s.rptChkOk := rfl
@[simp] theorem State.pinDirTo_stimulus (d : PinDir) : (s.pinDirTo d).stimulus = s.stimulus := rfl
@[simp] theorem State.pinDirTo_tick (d : PinDir) : (s.pinDirTo d).tick = s.tick := rfl
@[simp] theorem State.pinDirTo_portsAt (d : PinDir) (j : Nat) : (s.pinDirTo d).portsAt j = s.portsAt j := rfl
@[simp] theorem State.pinDirTo_ports (d : PinDir) : (s.pinDirTo d).ports = s.ports := rfl
@[simp] theorem State.pinDirTo_cx (d : PinDir) : (s.pinDirTo d).cx = s.cx := rfl
@[simp] theorem State.pinDirTo_lineS (d : PinDir) : (s.pinDirTo d).lineS = s.lineS := rfl
@[simp] theorem State.pinDirTo_shiftedSync (d : PinDir) : (s.pinDirTo d).shiftedSync = s.shiftedSync := rfl
@[simp] theorem State.pinDirTo_waitCycles (d : PinDir) (n : Nat) : (s.pinDirTo d).waitCycles n = s.waitCycles n := rfl

/-! ### `pinPullTo` -/

@[simp] theorem State.pinPullTo_params (p : PullMode) : (s.pinPullTo p).params = s.params := rfl
@[simp] theorem State.pinPullTo_st (p : PullMode) : (s.pinPullTo p).st = s.st := rfl
@[simp] theorem State.pinPullTo_wcnt (p : PullMode) : (s.pinPullTo p).wcnt = s.wcnt := rfl
@[simp] theorem State.pinPullTo_bwc (p : PullMode) : (s.pinPullTo p).bwc = s.bwc := rfl
@[simp] theorem State.pinPullTo_bidx (p : PullMode) : (s.pinPullTo p).bidx = s.bidx := rfl
@[simp] theorem State.pinPullTo_data (p : PullMode) : (s.pinPullTo p).data = s.data := rfl
@[simp] theorem State.pinPullTo_chk (p : PullMode) : (s.pinPullTo p).chk = s.chk := rfl
@[simp] theorem State.pinPullTo_pinDir (p : PullMode) : (s.pinPullTo p).pinDir = s.pinDir := rfl
@[simp] theorem State.pinPullTo_pinPull (p : PullMode) : (s.pinPullTo p).pinPull = p.code := rfl
@[simp] theorem State.pinPullTo_pinOut (p : PullMode) : (s.pinPullTo p).pinOut = s.pinOut := rfl
@[simp] theorem State.pinPullTo_cancelQ (p : PullMode) : (s.pinPullTo p).cancelQ = s.cancelQ := rfl
@[simp] theorem State.pinPullTo_sync (p : PullMode) : (s.pinPullTo p).sync = s.sync := rfl
@[simp] theorem State.pinPullTo_rptStatus (p : PullMode) : (s.pinPullTo p).rptStatus = s.rptStatus := rfl
@[simp] theorem State.pinPullTo_rptHum (p : PullMode) : (s.pinPullTo p).rptHum = s.rptHum := rfl
@[simp] theorem State.pinPullTo_rptTemp (p : PullMode) : (s.pinPullTo p).rptTemp = s.rptTemp := rfl
@[simp] theorem State.pinPullTo_rptChk (p : PullMode) : (s.pinPullTo p).rptChk = s.rptChk := rfl
@[simp] theorem State.pinPullTo_rptCalc (p : PullMode) : (s.pinPullTo p).rptCalc = s.rptCalc := rfl
@[simp] theorem State.pinPullTo_rptChkOk (p : PullMode) : (s.pinPullTo p).rptChkOk = s.rptChkOk := rfl
@[simp] theorem State.pinPullTo_stimulus (p : PullMode) : (s.pinPullTo p).stimulus = s.stimulus := rfl
@[simp] theorem State.pinPullTo_tick (p : PullMode) : (s.pinPullTo p).tick = s.tick := rfl
@[simp] theorem State.pinPullTo_portsAt (p : PullMode) (j : Nat) : (s.pinPullTo p).portsAt j = s.portsAt j := rfl
@[simp] theorem State.pinPullTo_ports (p : PullMode) : (s.pinPullTo p).ports = s.ports := rfl
@[simp] theorem State.pinPullTo_cx (p : PullMode) : (s.pinPullTo p).cx = s.cx := rfl
@[simp] theorem State.pinPullTo_lineS (p : PullMode) : (s.pinPullTo p).lineS = s.lineS := rfl
@[simp] theorem State.pinPullTo_shiftedSync (p : PullMode) : (s.pinPullTo p).shiftedSync = s.shiftedSync := rfl
@[simp] theorem State.pinPullTo_waitCycles (p : PullMode) (n : Nat) : (s.pinPullTo p).waitCycles n = s.waitCycles n := rfl

/-! ### `pinLevelTo` -/

@[simp] theorem State.pinLevelTo_params (v : Level) : (s.pinLevelTo v).params = s.params := rfl
@[simp] theorem State.pinLevelTo_st (v : Level) : (s.pinLevelTo v).st = s.st := rfl
@[simp] theorem State.pinLevelTo_wcnt (v : Level) : (s.pinLevelTo v).wcnt = s.wcnt := rfl
@[simp] theorem State.pinLevelTo_bwc (v : Level) : (s.pinLevelTo v).bwc = s.bwc := rfl
@[simp] theorem State.pinLevelTo_bidx (v : Level) : (s.pinLevelTo v).bidx = s.bidx := rfl
@[simp] theorem State.pinLevelTo_data (v : Level) : (s.pinLevelTo v).data = s.data := rfl
@[simp] theorem State.pinLevelTo_chk (v : Level) : (s.pinLevelTo v).chk = s.chk := rfl
@[simp] theorem State.pinLevelTo_pinDir (v : Level) : (s.pinLevelTo v).pinDir = s.pinDir := rfl
@[simp] theorem State.pinLevelTo_pinPull (v : Level) : (s.pinLevelTo v).pinPull = s.pinPull := rfl
@[simp] theorem State.pinLevelTo_pinOut (v : Level) : (s.pinLevelTo v).pinOut = v.code := rfl
@[simp] theorem State.pinLevelTo_cancelQ (v : Level) : (s.pinLevelTo v).cancelQ = s.cancelQ := rfl
@[simp] theorem State.pinLevelTo_sync (v : Level) : (s.pinLevelTo v).sync = s.sync := rfl
@[simp] theorem State.pinLevelTo_rptStatus (v : Level) : (s.pinLevelTo v).rptStatus = s.rptStatus := rfl
@[simp] theorem State.pinLevelTo_rptHum (v : Level) : (s.pinLevelTo v).rptHum = s.rptHum := rfl
@[simp] theorem State.pinLevelTo_rptTemp (v : Level) : (s.pinLevelTo v).rptTemp = s.rptTemp := rfl
@[simp] theorem State.pinLevelTo_rptChk (v : Level) : (s.pinLevelTo v).rptChk = s.rptChk := rfl
@[simp] theorem State.pinLevelTo_rptCalc (v : Level) : (s.pinLevelTo v).rptCalc = s.rptCalc := rfl
@[simp] theorem State.pinLevelTo_rptChkOk (v : Level) : (s.pinLevelTo v).rptChkOk = s.rptChkOk := rfl
@[simp] theorem State.pinLevelTo_stimulus (v : Level) : (s.pinLevelTo v).stimulus = s.stimulus := rfl
@[simp] theorem State.pinLevelTo_tick (v : Level) : (s.pinLevelTo v).tick = s.tick := rfl
@[simp] theorem State.pinLevelTo_portsAt (v : Level) (j : Nat) : (s.pinLevelTo v).portsAt j = s.portsAt j := rfl
@[simp] theorem State.pinLevelTo_ports (v : Level) : (s.pinLevelTo v).ports = s.ports := rfl
@[simp] theorem State.pinLevelTo_cx (v : Level) : (s.pinLevelTo v).cx = s.cx := rfl
@[simp] theorem State.pinLevelTo_lineS (v : Level) : (s.pinLevelTo v).lineS = s.lineS := rfl
@[simp] theorem State.pinLevelTo_shiftedSync (v : Level) : (s.pinLevelTo v).shiftedSync = s.shiftedSync := rfl
@[simp] theorem State.pinLevelTo_waitCycles (v : Level) (n : Nat) : (s.pinLevelTo v).waitCycles n = s.waitCycles n := rfl

/-! ### `setReport` -/

@[simp] theorem State.setReport_params (r : Report) : (s.setReport r).params = s.params := rfl
@[simp] theorem State.setReport_st (r : Report) : (s.setReport r).st = s.st := rfl
@[simp] theorem State.setReport_wcnt (r : Report) : (s.setReport r).wcnt = s.wcnt := rfl
@[simp] theorem State.setReport_bwc (r : Report) : (s.setReport r).bwc = s.bwc := rfl
@[simp] theorem State.setReport_bidx (r : Report) : (s.setReport r).bidx = s.bidx := rfl
@[simp] theorem State.setReport_data (r : Report) : (s.setReport r).data = s.data := rfl
@[simp] theorem State.setReport_chk (r : Report) : (s.setReport r).chk = s.chk := rfl
@[simp] theorem State.setReport_pinDir (r : Report) : (s.setReport r).pinDir = s.pinDir := rfl
@[simp] theorem State.setReport_pinPull (r : Report) : (s.setReport r).pinPull = s.pinPull := rfl
@[simp] theorem State.setReport_pinOut (r : Report) : (s.setReport r).pinOut = s.pinOut := rfl
@[simp] theorem State.setReport_cancelQ (r : Report) : (s.setReport r).cancelQ = s.cancelQ := rfl
@[simp] theorem State.setReport_sync (r : Report) : (s.setReport r).sync = s.sync := rfl
@[simp] theorem State.setReport_rptStatus (r : Report) : (s.setReport r).rptStatus = r.status.code := rfl
@[simp] theorem State.setReport_rptHum (r : Report) : (s.setReport r).rptHum = r.hum := rfl
@[simp] theorem State.setReport_rptTemp (r : Report) : (s.setReport r).rptTemp = r.temp := rfl
@[simp] theorem State.setReport_rptChk (r : Report) : (s.setReport r).rptChk = r.chk := rfl
@[simp] theorem State.setReport_rptCalc (r : Report) : (s.setReport r).rptCalc = r.computed := rfl
@[simp] theorem State.setReport_rptChkOk (r : Report) : (s.setReport r).rptChkOk = r.chkOk := rfl
@[simp] theorem State.setReport_stimulus (r : Report) : (s.setReport r).stimulus = s.stimulus := rfl
@[simp] theorem State.setReport_tick (r : Report) : (s.setReport r).tick = s.tick := rfl
@[simp] theorem State.setReport_portsAt (r : Report) (j : Nat) : (s.setReport r).portsAt j = s.portsAt j := rfl
@[simp] theorem State.setReport_ports (r : Report) : (s.setReport r).ports = s.ports := rfl
@[simp] theorem State.setReport_cx (r : Report) : (s.setReport r).cx = s.cx := rfl
@[simp] theorem State.setReport_lineS (r : Report) : (s.setReport r).lineS = s.lineS := rfl
@[simp] theorem State.setReport_shiftedSync (r : Report) : (s.setReport r).shiftedSync = s.shiftedSync := rfl
@[simp] theorem State.setReport_waitCycles (r : Report) (n : Nat) : (s.setReport r).waitCycles n = s.waitCycles n := rfl

/-! ### `endCycle` -/

@[simp] theorem State.endCycle_params (t : State) : (s.endCycle t).params = t.params := rfl
@[simp] theorem State.endCycle_st (t : State) : (s.endCycle t).st = t.st := rfl
@[simp] theorem State.endCycle_wcnt (t : State) : (s.endCycle t).wcnt = t.wcnt := rfl
@[simp] theorem State.endCycle_bwc (t : State) : (s.endCycle t).bwc = t.bwc := rfl
@[simp] theorem State.endCycle_bidx (t : State) : (s.endCycle t).bidx = t.bidx := rfl
@[simp] theorem State.endCycle_data (t : State) : (s.endCycle t).data = t.data := rfl
@[simp] theorem State.endCycle_chk (t : State) : (s.endCycle t).chk = t.chk := rfl
@[simp] theorem State.endCycle_pinDir (t : State) : (s.endCycle t).pinDir = t.pinDir := rfl
@[simp] theorem State.endCycle_pinPull (t : State) : (s.endCycle t).pinPull = t.pinPull := rfl
@[simp] theorem State.endCycle_pinOut (t : State) : (s.endCycle t).pinOut = t.pinOut := rfl
@[simp] theorem State.endCycle_cancelQ (t : State) : (s.endCycle t).cancelQ = s.cx := rfl
@[simp] theorem State.endCycle_sync (t : State) : (s.endCycle t).sync = s.shiftedSync := rfl
@[simp] theorem State.endCycle_rptStatus (t : State) : (s.endCycle t).rptStatus = t.rptStatus := rfl
@[simp] theorem State.endCycle_rptHum (t : State) : (s.endCycle t).rptHum = t.rptHum := rfl
@[simp] theorem State.endCycle_rptTemp (t : State) : (s.endCycle t).rptTemp = t.rptTemp := rfl
@[simp] theorem State.endCycle_rptChk (t : State) : (s.endCycle t).rptChk = t.rptChk := rfl
@[simp] theorem State.endCycle_rptCalc (t : State) : (s.endCycle t).rptCalc = t.rptCalc := rfl
@[simp] theorem State.endCycle_rptChkOk (t : State) : (s.endCycle t).rptChkOk = t.rptChkOk := rfl
@[simp] theorem State.endCycle_stimulus (t : State) : (s.endCycle t).stimulus = s.stimulus.tail := rfl
@[simp] theorem State.endCycle_tick (t : State) : (s.endCycle t).tick = s.tick + 1 := rfl

/-! ### `resetOf` and `resetEdge` -/

@[simp] theorem State.resetOf_params (p : Params) : (State.resetOf p).params = p := rfl
@[simp] theorem State.resetOf_st (p : Params) : (State.resetOf p).st = 0x0#4 := rfl
@[simp] theorem State.resetOf_wcnt (p : Params) : (State.resetOf p).wcnt = 0 := rfl
@[simp] theorem State.resetOf_bwc (p : Params) : (State.resetOf p).bwc = 0 := rfl
@[simp] theorem State.resetOf_bidx (p : Params) : (State.resetOf p).bidx = 0 := rfl
@[simp] theorem State.resetOf_data (p : Params) : (State.resetOf p).data = 0 := rfl
@[simp] theorem State.resetOf_chk (p : Params) : (State.resetOf p).chk = 0 := rfl
@[simp] theorem State.resetOf_pinDir (p : Params) : (State.resetOf p).pinDir = 0 := rfl
@[simp] theorem State.resetOf_pinPull (p : Params) : (State.resetOf p).pinPull = 0b00#2 := rfl
@[simp] theorem State.resetOf_pinOut (p : Params) : (State.resetOf p).pinOut = 0 := rfl
@[simp] theorem State.resetOf_cancelQ (p : Params) : (State.resetOf p).cancelQ = 0 := rfl
@[simp] theorem State.resetOf_sync (p : Params) : (State.resetOf p).sync = List.replicate p.syncStages 1 := rfl
@[simp] theorem State.resetOf_rptStatus (p : Params) : (State.resetOf p).rptStatus = 0b00#2 := rfl
@[simp] theorem State.resetOf_rptHum (p : Params) : (State.resetOf p).rptHum = 0 := rfl
@[simp] theorem State.resetOf_rptTemp (p : Params) : (State.resetOf p).rptTemp = 0 := rfl
@[simp] theorem State.resetOf_rptChk (p : Params) : (State.resetOf p).rptChk = 0 := rfl
@[simp] theorem State.resetOf_rptCalc (p : Params) : (State.resetOf p).rptCalc = 0 := rfl
@[simp] theorem State.resetOf_rptChkOk (p : Params) : (State.resetOf p).rptChkOk = 0 := rfl
@[simp] theorem State.resetOf_stimulus (p : Params) : (State.resetOf p).stimulus = [] := rfl
@[simp] theorem State.resetOf_tick (p : Params) : (State.resetOf p).tick = 0 := rfl

@[simp] theorem State.resetEdge_params : s.resetEdge.params = s.params := rfl
@[simp] theorem State.resetEdge_st : s.resetEdge.st = 0x0#4 := rfl
@[simp] theorem State.resetEdge_wcnt : s.resetEdge.wcnt = 0 := rfl
@[simp] theorem State.resetEdge_bwc : s.resetEdge.bwc = 0 := rfl
@[simp] theorem State.resetEdge_bidx : s.resetEdge.bidx = 0 := rfl
@[simp] theorem State.resetEdge_data : s.resetEdge.data = 0 := rfl
@[simp] theorem State.resetEdge_chk : s.resetEdge.chk = 0 := rfl
@[simp] theorem State.resetEdge_pinDir : s.resetEdge.pinDir = 0 := rfl
@[simp] theorem State.resetEdge_pinPull : s.resetEdge.pinPull = 0b00#2 := rfl
@[simp] theorem State.resetEdge_pinOut : s.resetEdge.pinOut = 0 := rfl
@[simp] theorem State.resetEdge_cancelQ : s.resetEdge.cancelQ = 0 := rfl
@[simp] theorem State.resetEdge_sync : s.resetEdge.sync = List.replicate s.params.syncStages 1 := rfl
@[simp] theorem State.resetEdge_rptStatus : s.resetEdge.rptStatus = 0b00#2 := rfl
@[simp] theorem State.resetEdge_rptHum : s.resetEdge.rptHum = 0 := rfl
@[simp] theorem State.resetEdge_rptTemp : s.resetEdge.rptTemp = 0 := rfl
@[simp] theorem State.resetEdge_rptChk : s.resetEdge.rptChk = 0 := rfl
@[simp] theorem State.resetEdge_rptCalc : s.resetEdge.rptCalc = 0 := rfl
@[simp] theorem State.resetEdge_rptChkOk : s.resetEdge.rptChkOk = 0 := rfl
@[simp] theorem State.resetEdge_stimulus : s.resetEdge.stimulus = s.stimulus.tail := rfl
@[simp] theorem State.resetEdge_tick : s.resetEdge.tick = s.tick + 1 := rfl

end Sys2Proof.Machine
end

