-- ==== Sys2Proof/Laws/Ops.lean ====
section
/-! SUPPORT. One lemma per shared operation that says everything it can do, and what the input ports are one
cycle later. -/

namespace Sys2Proof.Machine

variable (s : State)

/-! ### Waits -/

/-- A wait load writes the wait counter alone. -/
theorem State.loadWait_eq (n : Nat) :
    s.loadWait n = { s with wcnt := BitVec.ofNat 32 (n * s.params.unitCycles) } := rfl

/-- A product that fits the counter is loaded whole (30_encoding.md R88). -/
theorem State.loadWait_wcnt_toNat {n : Nat} (h : s.params.WaitFits n) :
    (s.loadWait n).wcnt.toNat = n * s.params.unitCycles := by
  have h2 := h.2
  show (BitVec.ofNat 32 (n * s.params.unitCycles)).toNat = _
  rw [BitVec.toNat_ofNat]
  exact Nat.mod_eq_of_lt (by omega)

/-- Countdown either ends the wait, with the counter at 0, or takes one from the counter (R115). -/
theorem State.countdown_cases (next : Instr) :
    (s.wcnt.toNat ≤ 1 ∧ s.countdown next = { s with wcnt := 0, st := next.code }) ∨
    (1 < s.wcnt.toNat ∧ s.countdown next = { s with wcnt := s.wcnt - 1 }) := by
  unfold State.countdown
  split
  · next h => exact .inl ⟨h, rfl⟩
  · next h => exact .inr ⟨by omega, rfl⟩

/-! ### Busy-waits -/

/-- BusyStay either ends the decode with Timeout, leaving `bwc`, or counts the stay-sample (R135). -/
theorem State.busyStay_cases :
    (s.GuardFires ∧ s.busyStay = s.deliver (.zero .timeout)) ∨
    (¬ s.GuardFires ∧ s.busyStay = { s with bwc := s.bwc + 1 }) := by
  unfold State.busyStay
  split
  · next h => exact .inl ⟨h, rfl⟩
  · next h => exact .inr ⟨h, rfl⟩

/-- The end of a decode writes the six report registers and enters REPORT. -/
theorem State.deliver_eq (r : Report) :
    s.deliver r =
      { s with
        st := 0xD#4, rptStatus := r.status.code, rptHum := r.hum, rptTemp := r.temp, rptChk := r.chk,
        rptCalc := r.computed, rptChkOk := r.chkOk } := rfl

/-! ### Bits as propositions -/

/-- A bit that is not High is Low. -/
theorem bit_ne_one {b : Bit} : b ≠ 1 ↔ b = 0 := by
  constructor <;> intro h <;> bv_omega

/-- `cx` is up exactly when the latch or the input is (10_state.md R40). -/
theorem State.cx_eq_one : s.cx = 1 ↔ s.cancelQ = 1 ∨ s.ports.cancel = 1 := by
  have key : ∀ a b : Bit, a ||| b = 1 ↔ a = 1 ∨ b = 1 := by decide
  exact key _ _

/-- `cx` is down exactly when both are. -/
theorem State.cx_eq_zero : s.cx = 0 ↔ s.cancelQ = 0 ∧ s.ports.cancel = 0 := by
  have key : ∀ a b : Bit, a ||| b = 0 ↔ a = 0 ∧ b = 0 := by decide
  exact key _ _

/-! ### The input ports one cycle later -/

/-- The ports of a state are a function of what is placed and the tick alone. -/
theorem State.portsAt_congr {s t : State} (h : t.stimulus = s.stimulus.tail) (k : t.tick = s.tick + 1)
    (j : Nat) : t.portsAt j = s.portsAt (j + 1) := by
  unfold State.portsAt
  rw [h, k, List.getElem?_tail, show s.tick + 1 + j = s.tick + (j + 1) by omega]

@[simp] theorem State.endCycle_portsAt (t : State) (j : Nat) :
    (s.endCycle t).portsAt j = s.portsAt (j + 1) := State.portsAt_congr rfl rfl j

@[simp] theorem State.resetEdge_portsAt (j : Nat) : s.resetEdge.portsAt j = s.portsAt (j + 1) :=
  State.portsAt_congr rfl rfl j

/-- The synchroniser keeps its length (R32). -/
@[simp] theorem State.shiftedSync_length : s.shiftedSync.length = s.sync.length := by
  simp [State.shiftedSync]

end Sys2Proof.Machine
end

