-- ==== Sys2Proof/Laws/PerInstr.lean ====
section
/-! SUPPORT. Statements made once per instruction, about the instruction as syntax. -/

namespace Sys2Proof.Laws.CodeInTable

/-- The instruction's code decodes to it, and one row of the opcode table holds the pair (30_encoding.md R80,
R81). -/
def Statement (i : Instr) : Prop :=
  decodeState i.code = i ∧ ∃ r ∈ opcodeTable, r.instr = i ∧ r.pattern = i.code

/-- The `k`-th row is the witness. -/
theorem of_row {i : Instr} (k : Fin opcodeTable.length) (hd : decodeState i.code = i)
    (hi : (opcodeTable.get k).instr = i) (hp : (opcodeTable.get k).pattern = i.code) : Statement i :=
  ⟨hd, opcodeTable.get k, List.get_mem _ _, hi, hp⟩

theorem arm : Statement .arm := of_row ⟨0, by decide⟩ rfl rfl rfl
theorem interWait : Statement .interWait := of_row ⟨1, by decide⟩ rfl rfl rfl
theorem startHi : Statement .startHi := of_row ⟨2, by decide⟩ rfl rfl rfl
theorem startWait : Statement .startWait := of_row ⟨3, by decide⟩ rfl rfl rfl
theorem startLo : Statement .startLo := of_row ⟨4, by decide⟩ rfl rfl rfl
theorem release : Statement .release := of_row ⟨5, by decide⟩ rfl rfl rfl
theorem respWait : Statement .respWait := of_row ⟨6, by decide⟩ rfl rfl rfl
theorem presence : Statement .presence := of_row ⟨7, by decide⟩ rfl rfl rfl
theorem waitHi : Statement .waitHi := of_row ⟨8, by decide⟩ rfl rfl rfl
theorem waitLo : Statement .waitLo := of_row ⟨9, by decide⟩ rfl rfl rfl
theorem bitWait : Statement .bitWait := of_row ⟨10, by decide⟩ rfl rfl rfl
theorem sample : Statement .sample := of_row ⟨11, by decide⟩ rfl rfl rfl
theorem check : Statement .check := of_row ⟨12, by decide⟩ rfl rfl rfl
theorem report : Statement .report := of_row ⟨13, by decide⟩ rfl rfl rfl
theorem cancelled : Statement .cancelled := of_row ⟨14, by decide⟩ rfl rfl rfl
theorem reservedF : Statement .reservedF := of_row ⟨15, by decide⟩ rfl rfl rfl

end Sys2Proof.Laws.CodeInTable
end

