-- ==== Sys2Proof/Laws/Step.lean ====
section
/-! SUPPORT. What `exec` and `step` can do, said once: every state rule answers a next state and leaves the
latch, the synchroniser and the model's own fields alone, and an edge is a reset, a cancellation or the
rule of the state. -/

namespace Sys2Proof.Machine

/-- What no state rule writes: the parameters, the latch (10_state.md R31), the synchroniser (R32) and the
placed inputs. -/
structure KeptByRules (s t : State) : Prop where
  params : t.params = s.params
  cancelQ : t.cancelQ = s.cancelQ
  sync : t.sync = s.sync
  stimulus : t.stimulus = s.stimulus
  tick : t.tick = s.tick

theorem KeptByRules.countdown (s : State) (i : Instr) : KeptByRules s (s.countdown i) := by
  rcases s.countdown_cases i with ⟨-, h⟩ | ⟨-, h⟩ <;> rw [h] <;> constructor <;> rfl

theorem KeptByRules.busyStay (s : State) : KeptByRules s s.busyStay := by
  rcases s.busyStay_cases with ⟨-, h⟩ | ⟨-, h⟩ <;> rw [h] <;> constructor <;> rfl

/-- Every state rule answers a next state (60_exceptions.md R212: every state rule is always permitted). -/
theorem exec_next (i : Instr) (s : State) : ∃ t, exec i s = .next t ∧ KeptByRules s t := by
  cases i with
  | interWait | startWait | respWait | bitWait => exact ⟨_, rfl, .countdown s _⟩
  | presence =>
    show ∃ t, execPresence s = .next t ∧ KeptByRules s t
    unfold execPresence
    split <;> exact ⟨_, rfl, ⟨rfl, rfl, rfl, rfl, rfl⟩⟩
  | waitHi =>
    show ∃ t, execWaitHi s = .next t ∧ KeptByRules s t
    unfold execWaitHi
    split
    · exact ⟨_, rfl, .busyStay s⟩
    · exact ⟨_, rfl, ⟨rfl, rfl, rfl, rfl, rfl⟩⟩
  | waitLo =>
    show ∃ t, execWaitLo s = .next t ∧ KeptByRules s t
    unfold execWaitLo
    split
    · exact ⟨_, rfl, .busyStay s⟩
    · exact ⟨_, rfl, ⟨rfl, rfl, rfl, rfl, rfl⟩⟩
  | sample =>
    refine ⟨_, rfl, ?_⟩
    unfold State.accumulate
    split <;> exact ⟨rfl, rfl, rfl, rfl, rfl⟩
  | _ => exact ⟨_, rfl, ⟨rfl, rfl, rfl, rfl, rfl⟩⟩

/-- Without reset and cancellation an edge applies the rule of the state (R40). -/
theorem step_rule {s t : State} (e : s.HasEngine) (hr : s.ports.rst = 0) (hc : s.cx = 0)
    (h : exec s.fetch s = .next t) : step s = .next (s.endCycle t) := by
  unfold step clockEdge State.applyRule
  rw [if_pos e, if_neg (by rw [hr]; decide), if_neg (by rw [hc]; decide), h]

/-- An edge with reset (R240). -/
theorem step_reset {s : State} (e : s.HasEngine) (hr : s.ports.rst = 1) : step s = .next s.resetEdge := by
  unfold step clockEdge
  rw [if_pos e, if_pos hr]

/-- An edge with cancellation and no reset (R204). -/
theorem step_cancel {s : State} (e : s.HasEngine) (hr : s.ports.rst = 0) (hc : s.cx = 1) :
    step s = .next (s.endCycle s.raiseCancel) := by
  unfold step clockEdge
  rw [if_pos e, if_neg (by rw [hr]; decide), if_pos hc]

/-- Everything one edge can do: if it answers a next state, the state has an engine and the edge is a reset, a
cancellation, or the rule of the state (R40, R209). -/
theorem step_cases {s u : State} (h : step s = .next u) :
    s.HasEngine ∧
    ((s.ports.rst = 1 ∧ u = s.resetEdge) ∨
     (s.ports.rst = 0 ∧ s.cx = 1 ∧ u = s.endCycle s.raiseCancel) ∨
     (s.ports.rst = 0 ∧ s.cx = 0 ∧
       ∃ t, exec s.fetch s = .next t ∧ KeptByRules s t ∧ u = s.endCycle t)) := by
  have bit : ∀ b : Bit, b = 1 ∨ b = 0 := by decide
  by_cases e : s.HasEngine
  · refine ⟨e, ?_⟩
    rcases bit s.ports.rst with hr | hr
    · rw [step_reset e hr] at h
      exact .inl ⟨hr, (Host.Outcome.next.inj h).symm⟩
    · rcases bit s.cx with hc | hc
      · rw [step_cancel e hr hc] at h
        exact .inr (.inl ⟨hr, hc, (Host.Outcome.next.inj h).symm⟩)
      · obtain ⟨t, ht, k⟩ := exec_next s.fetch s
        rw [step_rule e hr hc ht] at h
        exact .inr (.inr ⟨hr, hc, t, ht, k, (Host.Outcome.next.inj h).symm⟩)
  · unfold step clockEdge at h
    rw [if_neg e] at h
    cases h

/-- An engine always takes its edge. -/
theorem step_next {s : State} (e : s.HasEngine) : ∃ u, step s = .next u := by
  have bit : ∀ b : Bit, b = 1 ∨ b = 0 := by decide
  rcases bit s.ports.rst with hr | hr
  · exact ⟨_, step_reset e hr⟩
  · rcases bit s.cx with hc | hc
    · exact ⟨_, step_cancel e hr hc⟩
    · obtain ⟨t, ht, -⟩ := exec_next s.fetch s
      exact ⟨_, step_rule e hr hc ht⟩

end Sys2Proof.Machine
end

