-- ==== Sys2Proof/Laws/Timing.lean ====
section
/-! SUPPORT. The durations of 43_poller_cadence.md R185 and 70_reset_and_hazards.md R253. -/

namespace Sys2Proof.Machine

/-- The length of a frame's poller cycle in the form of R185: 40 settle delays and samples beside the
busy-waits. -/
theorem frameCycles_eq (p : Params) (bs : List Pulse) (h : bs.length = 40) :
    frameCycles p bs = 7 + (p.tInter + p.tStart + p.tResp) * p.unitCycles +
      40 * (p.tBit * p.unitCycles + 1) + (bs.map fun b => b.hi + b.lo).sum := by
  have key : ∀ l : List Pulse, pulsesCycles p l =
      l.length * (p.tBit * p.unitCycles + 1) + (l.map fun b => b.hi + b.lo).sum := by
    intro l
    induction l with
    | nil => simp [pulsesCycles]
    | cons b rest ih =>
      have split : pulsesCycles p (b :: rest) = b.cycles p + pulsesCycles p rest := by simp [pulsesCycles]
      rw [split, ih, Pulse.cycles]
      simp only [List.length_cons, List.map_cons, List.sum_cons]
      ring
  rw [frameCycles, key, h]
  omega

/-- At the default delays an Absent poller cycle takes `6 + 3052 * UNIT_CYCLES` cycles (R185, R253). -/
theorem absentCycles_default (u : Nat) :
    absentCycles { Params.reference with unitCycles := u } = 6 + 3052 * u := rfl

/-- With `UNIT_CYCLES` cycles a millisecond, a wait of `n` units lasts `n` milliseconds (R253). -/
theorem milliseconds_units (p : Params) (n : Nat) (h : p.fClk = 1000 * p.unitCycles) (u : 1 ≤ p.unitCycles) :
    milliseconds p (n * p.unitCycles) = n := by
  have u' : (p.unitCycles : ℚ) ≠ 0 := by
    have : p.unitCycles ≠ 0 := by omega
    exact_mod_cast this
  rw [milliseconds, h]
  push_cast
  field_simp

end Sys2Proof.Machine
end

