-- ==== Sys2Proof/Tests/Slice0.lean ====
section
/-! SUPPORT. The model's own tests: well-formedness, decoding, single steps with the expected values of
95_test_vectors.md (section L2, cited as V<n> #<row>), and for every statement with hypotheses a witness that
meets them. Frames and parameters are those of section L3 and of 00_scope.md R7. -/

namespace Sys2Proof.Tests

open Sys2Proof Sys2Proof.Machine

/-! ### Helpers -/

/-- The small parameters of section L3. -/
def small : Params where
  fClk := 1000
  unitCycles := 1
  tInter := 2
  tStart := 1
  tResp := 1
  tBit := 1
  syncStages := 0
  busyGuard := 0
  strictChecksum := 0

/-- The next state of an outcome. -/
def nextOf : Host.Outcome State Fault Refusal → Option State
  | .next t => some t
  | .fault _ => none
  | .refused _ => none

/-- An engine in this state with these levels at the pad from this cycle on, everything else as after reset. -/
def engine (p : Params) (st : StateCode) (pins : List Bit) : State :=
  { State.resetOf p with st := st, stimulus := stimulusOf pins none }

/-- One field, or a few, of the state after one edge. -/
def after {α : Type} (s : State) (f : State → α) : Option α := (nextOf (step s)).map f

/-- The six report registers, `status/hum/temp/chk/calc/ok`. -/
def reportOf (s : State) : BitVec 2 × Half × Half × Byte × Byte × Bit :=
  (s.rptStatus, s.rptHum, s.rptTemp, s.rptChk, s.rptCalc, s.rptChkOk)

/-! ### Well-formedness (00_scope.md R7; 30_encoding.md R93) -/

theorem test_small_legal : small.Legal := by decide
theorem test_reference_legal : Params.reference.Legal := by decide
theorem test_sync_seven_legal : { small with syncStages := 7 }.Legal := by decide
theorem test_longest_wait_legal : { small with tInter := 4294967295 }.Legal := by decide

theorem test_refused_clock : ¬ { small with fClk := 0 }.Legal := by decide
theorem test_refused_unit : ¬ { small with unitCycles := 0 }.Legal := by decide
theorem test_refused_inter : ¬ { small with tInter := 0 }.Legal := by decide
theorem test_refused_start : ¬ { small with tStart := 0 }.Legal := by decide
theorem test_refused_resp : ¬ { small with tResp := 0 }.Legal := by decide
theorem test_refused_bit : ¬ { small with tBit := 0 }.Legal := by decide
theorem test_refused_sync : ¬ { small with syncStages := 8 }.Legal := by decide
theorem test_refused_guard : ¬ { small with busyGuard := 4294967296 }.Legal := by decide
theorem test_refused_strict : ¬ { small with strictChecksum := 2 }.Legal := by decide
theorem test_refused_inter_product : ¬ { small with tInter := 4294967296 }.Legal := by decide
theorem test_refused_start_product : ¬ { small with unitCycles := 65536, tStart := 65536 }.Legal := by
  decide
theorem test_refused_resp_product : ¬ { small with tResp := 4294967296 }.Legal := by decide
theorem test_refused_bit_product : ¬ { small with tBit := 4294967296 }.Legal := by decide

/-- The step of an ill-formed instance is refused by name. -/
theorem test_illegal_instance_step :
    step (State.resetOf { small with unitCycles := 0 }) = .refused .illegalInstance := rfl

theorem test_not_a_state_word : ¬ CarriesStateWord 0x10#8 := by decide
theorem test_not_a_state_word_decode : decodeTableWord 8 0x1B = none := by decide
theorem test_no_word : (match decodeBytes [] with | .error .noWord => true | _ => false) = true := by
  decide

/-! ### Decoding, the words written out from the table of 30_encoding.md R80 and R81 -/

theorem test_decode_arm : decodeTableWord 8 0b0000 = some .arm := by decide
theorem test_decode_inter_wait : decodeTableWord 8 0b0001 = some .interWait := by decide
theorem test_decode_start_hi : decodeTableWord 8 0b0010 = some .startHi := by decide
theorem test_decode_start_wait : decodeTableWord 8 0b0011 = some .startWait := by decide
theorem test_decode_start_lo : decodeTableWord 8 0b0100 = some .startLo := by decide
theorem test_decode_release : decodeTableWord 8 0b0101 = some .release := by decide
theorem test_decode_resp_wait : decodeTableWord 8 0b0110 = some .respWait := by decide
theorem test_decode_presence : decodeTableWord 8 0b0111 = some .presence := by decide
theorem test_decode_wait_hi : decodeTableWord 8 0b1000 = some .waitHi := by decide
theorem test_decode_wait_lo : decodeTableWord 8 0b1001 = some .waitLo := by decide
theorem test_decode_bit_wait : decodeTableWord 8 0b1010 = some .bitWait := by decide
theorem test_decode_sample : decodeTableWord 8 0b1011 = some .sample := by decide
theorem test_decode_check : decodeTableWord 8 0b1100 = some .check := by decide
theorem test_decode_report : decodeTableWord 8 0b1101 = some .report := by decide
theorem test_decode_cancelled : decodeTableWord 8 0b1110 = some .cancelled := by decide
theorem test_decode_reserved : decodeTableWord 8 0b1111 = some .reservedF := by decide

/-! ### One step of each state (V1 to V7) -/

/-- V1 #1. -/
theorem test_arm :
    after { engine { small with tInter := 3000 } 0x0#4 [1] with pinPull := 0b01#2 }
      (fun t => (t.st, t.pinDir, t.pinOut, t.wcnt, t.pinPull)) =
      some (0x1#4, 1, 1, 3000, 0b01#2) := by decide

/-- V1 #2. -/
theorem test_arm_units :
    after (engine { small with unitCycles := 5 } 0x0#4 [0]) (fun t => t.wcnt) = some 10 := by decide

/-- V1 #3. -/
theorem test_inter_wait_counts :
    after { engine small 0x1#4 [0] with wcnt := 2 } (fun t => (t.st, t.wcnt)) = some (0x1#4, 1) := by
  decide

/-- V1 #4. -/
theorem test_inter_wait_ends :
    after { engine small 0x1#4 [0] with wcnt := 1 } (fun t => (t.st, t.wcnt)) = some (0x2#4, 0) := by
  decide

/-- V1 #5, with `cancel_q = 0`, which runs the rule of CANCELLED itself. -/
theorem test_cancelled :
    after { engine small 0xE#4 [1] with bwc := 5, pinDir := 1, pinOut := 1 }
      (fun t => (t.st, t.bwc, t.pinDir, t.pinOut)) = some (0xE#4, 5, 1, 1) := by decide

/-- V1 #6. -/
theorem test_reserved :
    after { engine small 0xF#4 [1] with pinDir := 1, pinOut := 1 }
      (fun t => (t.st, t.pinDir, t.pinOut, t.cancelQ)) = some (0xE#4, 1, 1, 0) := by decide

/-- V2 #1. -/
theorem test_start_hi :
    after (engine { small with tStart := 25 } 0x2#4 [0]) (fun t => (t.st, t.pinDir, t.pinOut, t.wcnt)) =
      some (0x3#4, 1, 1, 25) := by decide

/-- V2 #2. -/
theorem test_start_wait_counts :
    after { engine small 0x3#4 [0] with wcnt := 25 } (fun t => (t.st, t.wcnt)) = some (0x3#4, 24) := by
  decide

/-- V2 #3. -/
theorem test_start_wait_ends :
    after { engine small 0x3#4 [0] with wcnt := 1 } (fun t => (t.st, t.wcnt)) = some (0x4#4, 0) := by
  decide

/-- V2 #4. -/
theorem test_start_lo :
    after { engine small 0x4#4 [0] with pinDir := 1, pinOut := 1 } (fun t => (t.st, t.pinDir, t.pinOut)) =
      some (0x5#4, 1, 0) := by decide

/-- V2 #5. -/
theorem test_release :
    after { engine { small with tResp := 27 } 0x5#4 [0] with pinDir := 1 }
      (fun t => (t.st, t.pinDir, t.pinPull, t.wcnt)) = some (0x6#4, 0, 0b01#2, 27) := by decide

/-- V2 #7: nothing is sampled. -/
theorem test_resp_wait_ends :
    after { engine small 0x6#4 [0] with wcnt := 1 } (fun t => (t.st, t.wcnt)) = some (0x7#4, 0) ∧
      { engine small 0x6#4 [0] with wcnt := 1 }.outputs.pinRdO = 0 := by decide

/-- V2 #9: the countdown at 0 ends the wait. -/
theorem test_countdown_at_zero :
    after (engine small 0x6#4 [0]) (fun t => (t.st, t.wcnt)) = some (0x7#4, 0) := by decide

/-- V3 #1. -/
theorem test_presence_absent :
    after { engine small 0x7#4 [1] with rptStatus := 0b01#2, rptHum := 7, rptChkOk := 1 }
      (fun t => (t.st, reportOf t)) = some (0xD#4, 0b00#2, 0, 0, 0, 0, 0) ∧
      (engine small 0x7#4 [1]).outputs.pinRdO = 1 := by decide

/-- V3 #2. -/
theorem test_presence_present :
    after { engine small 0x7#4 [0] with data := 0xDEADBEEF, chk := 0x12, bidx := 40, bwc := 7 }
      (fun t => (t.st, t.data, t.chk, t.bidx, t.bwc)) = some (0x8#4, 0, 0, 0, 0) := by decide

/-- V3 #4. -/
theorem test_wait_hi_exits :
    after { engine small 0x8#4 [0] with bwc := 5 } (fun t => (t.st, t.bwc)) = some (0x9#4, 0) := by decide

/-- V4 #6 and #7: the counter wraps and nothing ends the wait without a guard. The guard compares without
wrapping. -/
theorem test_wait_hi_counter :
    after { engine small 0x8#4 [1] with bwc := 0xFFFFFFFF } (fun t => (t.st, t.bwc)) = some (0x8#4, 0) ∧
    after { engine { small with busyGuard := 4294967295 } 0x8#4 [1] with bwc := 0xFFFFFFFE }
      (fun t => (t.st, t.rptStatus)) = some (0xD#4, 0b11#2) := by decide

/-- V3 #6. -/
theorem test_wait_lo_exits :
    after { engine { small with tBit := 32 } 0x9#4 [1] with bwc := 3 } (fun t => (t.st, t.bwc, t.wcnt)) =
      some (0xA#4, 0, 32) := by decide

/-- V4 #3 and #4: below the guard, and Timeout at it, which leaves the counter. -/
theorem test_wait_lo_guard :
    after { engine { small with busyGuard := 3 } 0x9#4 [0] with bwc := 1 } (fun t => (t.st, t.bwc)) =
      some (0x9#4, 2) ∧
    after { engine { small with busyGuard := 3 } 0x9#4 [0] with bwc := 2 }
      (fun t => (t.st, t.bwc, reportOf t)) = some (0xD#4, 2, 0b11#2, 0, 0, 0, 0, 0) := by decide

/-- V3 #7. -/
theorem test_bit_wait_ends :
    after { engine small 0xA#4 [1] with wcnt := 1 } (fun t => (t.st, t.wcnt)) = some (0xB#4, 0) := by
  decide

/-- V3 #9 and #11: the last bit of the data field and of the frame. -/
theorem test_sample_last_bits :
    after { engine small 0xB#4 [0] with bidx := 31, data := 0x19000A00 }
      (fun t => (t.st, t.data, t.chk, t.bidx)) = some (0x8#4, 0x32001400, 0, 32) ∧
    after { engine small 0xB#4 [0] with bidx := 39, chk := 0x23, data := 0x32001400 }
      (fun t => (t.st, t.data, t.chk, t.bidx)) = some (0xC#4, 0x32001400, 0x46, 40) := by decide

/-- V3 #13: the top bit is lost. -/
theorem test_sample_drops_top_bit :
    after { engine small 0xB#4 [1] with bidx := 5, data := 0x80000000 } (fun t => t.data) =
      some 0x00000001 := by decide

/-- V6 #3. -/
theorem test_check_reference_ignores :
    after { engine small 0xC#4 [1] with data := 0x32001400, chk := 0x47 } (fun t => (t.st, reportOf t)) =
      some (0xD#4, 0b01#2, 0x3200, 0x1400, 0x47, 0x46, 0) := by decide

/-- V6 #4 and #6, under the strict setting. -/
theorem test_check_strict :
    after { engine { small with strictChecksum := 1 } 0xC#4 [1] with data := 0x32001400, chk := 0x47 }
      (fun t => (t.st, reportOf t)) = some (0xD#4, 0b10#2, 0x3200, 0x1400, 0x47, 0x46, 0) ∧
    after { engine { small with strictChecksum := 1 } 0xC#4 [1] with data := 0xFFFFFFFF, chk := 0xFC }
      (fun t => reportOf t) = some (0b01#2, 0xFFFF, 0xFFFF, 0xFC, 0xFC, 1) :=
  ⟨by decide, by decide⟩

/-- V7 #1. -/
theorem test_report :
    after { engine small 0xD#4 [1] with rptHum := 0x3200 } (fun t => (t.st, t.rptHum)) =
      some (0x0#4, 0x3200) ∧ (engine small 0xD#4 [1]).outputs.rptValidO = 1 := by decide

/-- V5: the rows of the table of ByteSum. -/
theorem test_byte_sum :
    byteSum 0x32001400 = 0x46 ∧ byteSum 0x00000000 = 0x00 ∧ byteSum 0xFFFFFFFF = 0xFC ∧
    byteSum 0x01020304 = 0x0A ∧ byteSum 0x80808080 = 0x00 ∧ byteSum 0xFF000001 = 0x00 ∧
    byteSum 0x12345678 = 0x14 := by decide

/-- V9: the source's two examples, the sign-free `0x8000` and the maximum. -/
theorem test_raw_value :
    rawValue 0x3200 = 50 ∧ rawValue 0x1400 = 20 ∧ rawValue 0x8000 = 128 ∧
    rawValue 0xFFFF = 255.99609375 := by
  show ((12800 : ℕ) : ℚ) / 256 = 50 ∧ ((5120 : ℕ) : ℚ) / 256 = 20 ∧ ((32768 : ℕ) : ℚ) / 256 = 128 ∧
    ((65535 : ℕ) : ℚ) / 256 = 255.99609375
  norm_num

/-! ### Cancellation, reset and the synchroniser (V7, V8) -/

/-- An engine whose inputs are placed for the coming cycles. -/
def driven (p : Params) (st : StateCode) (placed : List Ports) : State :=
  { State.resetOf p with st := st, stimulus := placed }

/-- V7 #2: the report of the cycle is delivered, and the engine stops. -/
theorem test_cancel_at_report :
    after (driven small 0xD#4 [⟨0, 1, 1⟩]) (fun t => (t.st, t.cancelQ)) = some (0xE#4, 1) ∧
      (driven small 0xD#4 [⟨0, 1, 1⟩]).outputs.rptValidO = 1 := by decide

/-- V7 #3. -/
theorem test_reset_at_report :
    after (driven small 0xD#4 [⟨1, 0, 1⟩]) (fun t => t.st) = some 0x0#4 ∧
      (driven small 0xD#4 [⟨1, 0, 1⟩]).outputs.rptValidO = 0 := by decide

/-- V8 #1. -/
theorem test_cancel_in_wait_lo :
    after { driven small 0x9#4 [⟨0, 1, 1⟩] with bwc := 5 } (fun t => (t.st, t.cancelQ, t.bwc, t.wcnt)) =
      some (0xE#4, 1, 5, 0) ∧
      { driven small 0x9#4 [⟨0, 1, 1⟩] with bwc := 5 }.outputs.pinRdO = 0 := by decide

/-- V8 #3: the pin is left driven Low. -/
theorem test_cancel_in_release :
    after { driven small 0x5#4 [⟨0, 1, 0⟩] with pinDir := 1 } (fun t => (t.st, t.pinDir, t.pinOut)) =
      some (0xE#4, 1, 0) := by decide

/-- V8 #6: reset wins over cancellation. -/
theorem test_reset_wins :
    after { driven small 0xE#4 [⟨1, 1, 0⟩] with cancelQ := 1 } (fun t => (t.st, t.cancelQ)) =
      some (0x0#4, 0) := by decide

/-- V8 #7: the latch alone cancels. -/
theorem test_latch_alone_cancels :
    after { driven small 0x3#4 [⟨0, 0, 0⟩] with cancelQ := 1, wcnt := 1 } (fun t => (t.st, t.wcnt)) =
      some (0xE#4, 1) := by decide

/-- R32, R33: with two stages the sample is the older cell, and the pad enters at the other end. -/
theorem test_synchroniser :
    after { engine { small with syncStages := 2 } 0x7#4 [1] with sync := [0, 0] }
      (fun t => (t.st, t.sync)) = some (0x8#4, [1, 0]) := by decide

/-- The word of SAMPLE, placed at the state after reset, runs as its next instruction (log entry 6). -/
theorem test_with_fetch_word :
    after (State.reset.withFetchWord 8 0b1011) (fun t => (t.st, t.bidx, t.data)) =
      some (0x8#4, 1, 1) := by decide

/-! ### Witnesses: encoding and the edge -/

theorem witness_DecodeEncodeRoundTrip :
    (match decodeBytes [0x0B, 0xFF] with | .ok (i, r) => decide (i = .sample ∧ r = [0xFF]) | _ => false) =
      true ∧ 16 ≤ (0x10#8).toNat ∧ 16 ≤ (0xFF#8).toNat := by decide

theorem witness_StepRunsDecodedInstruction :
    (engine small 0xB#4 [1]).HasEngine ∧ (engine small 0xB#4 [1]).ports.rst = 0 ∧
    (engine small 0xB#4 [1]).cancelQ = 0 ∧ (engine small 0xB#4 [1]).ports.cancel = 0 ∧
    decodeState (engine small 0xB#4 [1]).st = .sample ∧
    (nextOf (exec .sample (engine small 0xB#4 [1]))).isSome := by decide

theorem witness_ResetEdgeSetsEveryRegister :
    (driven small 0x9#4 [⟨1, 1, 0⟩]).HasEngine ∧ (driven small 0x9#4 [⟨1, 1, 0⟩]).ports.rst = 1 := by
  decide

theorem witness_CancelEdgeSuppressesStateRule_input :
    (driven small 0x9#4 [⟨0, 1, 0⟩]).HasEngine ∧ (driven small 0x9#4 [⟨0, 1, 0⟩]).ports.rst = 0 ∧
    (driven small 0x9#4 [⟨0, 1, 0⟩]).ports.cancel = 1 := by decide

theorem witness_CancelEdgeSuppressesStateRule_latch :
    { engine small 0x9#4 [0] with cancelQ := 1 }.HasEngine ∧
    { engine small 0x9#4 [0] with cancelQ := 1 }.ports.rst = 0 ∧
    { engine small 0x9#4 [0] with cancelQ := 1 }.cancelQ = 1 := by decide

theorem witness_EdgeAdvancesInputs : (nextOf (step (engine small 0x0#4 [1, 0]))).isSome := by decide

theorem witness_IllegalInstanceIsRefused :
    ¬ (State.resetOf { small with syncStages := 8 }).params.Legal := by decide

/-! ### Witnesses: the state rules -/

theorem witness_WaitStatesCountDown :
    ({ engine small 0x1#4 [] with wcnt := 0 } : State).wcnt.toNat ≤ 1 ∧
    ({ engine small 0x1#4 [] with wcnt := 1 } : State).wcnt.toNat ≤ 1 ∧
    1 < ({ engine small 0x1#4 [] with wcnt := 2 } : State).wcnt.toNat := by decide

theorem witness_PresenceChecksSensor :
    (engine small 0x7#4 [1]).lineS = 1 ∧ (engine small 0x7#4 [0]).lineS = 0 := by decide

/-- The exit, the guard at its boundary, one below it, and no guard at all. -/
theorem witness_WaitHiBusyWaits :
    (engine small 0x8#4 [0]).lineS = 0 ∧
    (∃ s : State, s.lineS = 1 ∧ 0 < s.params.busyGuard ∧ s.params.busyGuard ≤ s.bwc.toNat + 1) ∧
    (∃ s : State, s.lineS = 1 ∧ 0 < s.params.busyGuard ∧
      ¬ (0 < s.params.busyGuard ∧ s.params.busyGuard ≤ s.bwc.toNat + 1)) ∧
    (∃ s : State, s.lineS = 1 ∧ s.params.busyGuard = 0 ∧
      ¬ (0 < s.params.busyGuard ∧ s.params.busyGuard ≤ s.bwc.toNat + 1)) :=
  ⟨by decide, ⟨{ engine { small with busyGuard := 3 } 0x8#4 [1] with bwc := 2 }, by decide⟩,
    ⟨{ engine { small with busyGuard := 3 } 0x8#4 [1] with bwc := 1 }, by decide⟩,
    ⟨{ engine small 0x8#4 [1] with bwc := 0xFFFFFFFF }, by decide⟩⟩

theorem witness_WaitLoBusyWaits :
    (engine small 0x9#4 [1]).lineS = 1 ∧
    (∃ s : State, s.lineS = 0 ∧ 0 < s.params.busyGuard ∧ s.params.busyGuard ≤ s.bwc.toNat + 1) ∧
    (∃ s : State, s.lineS = 0 ∧ 0 < s.params.busyGuard ∧
      ¬ (0 < s.params.busyGuard ∧ s.params.busyGuard ≤ s.bwc.toNat + 1)) ∧
    (∃ s : State, s.lineS = 0 ∧ s.params.busyGuard = 0 ∧
      ¬ (0 < s.params.busyGuard ∧ s.params.busyGuard ≤ s.bwc.toNat + 1)) :=
  ⟨by decide, ⟨{ engine { small with busyGuard := 3 } 0x9#4 [0] with bwc := 2 }, by decide⟩,
    ⟨{ engine { small with busyGuard := 3 } 0x9#4 [0] with bwc := 1 }, by decide⟩,
    ⟨{ engine small 0x9#4 [0] with bwc := 0xFFFFFFFF }, by decide⟩⟩

theorem witness_SampleShiftsOneBit :
    ({ engine small 0xB#4 [] with bidx := 31 } : State).bidx.toNat < 32 ∧
    32 ≤ ({ engine small 0xB#4 [] with bidx := 32 } : State).bidx.toNat ∧
    32 ≤ ({ engine small 0xB#4 [] with bidx := 39 } : State).bidx.toNat := by decide

/-- E1: the source's frame, whose verdict is 1, and its neighbour, whose verdict is 0. -/
theorem witness_CheckValidatesFrame :
    0x46#8 = byteSum ({ engine small 0xC#4 [] with data := 0x32001400 } : State).data ∧
    ((1 : Bit) = 1 ↔ 0x46#8 = ({ engine small 0xC#4 [] with chk := 0x46 } : State).chk) ∧
    ((0 : Bit) = 1 ↔ 0x46#8 = ({ engine small 0xC#4 [] with chk := 0x47 } : State).chk) := by decide

/-- The pin-read clause of the four sampling states. -/
theorem witness_pin_read :
    ∀ w ∈ [0x7#4, 0x8#4, 0x9#4, 0xB#4], (engine small w [1]).st = w ∧ (engine small w [1]).ports.rst = 0 ∧
      (engine small w [1]).cancelQ = 0 ∧ (engine small w [1]).ports.cancel = 0 := by decide

theorem witness_ReportDeliversOnce :
    (engine small 0xD#4 [1]).st = 0xD#4 ∧ (engine small 0xD#4 [1]).ports.rst = 0 := by decide

theorem witness_CancelledKeepsEveryRegister :
    (engine small 0xE#4 [1]).st = 0xE#4 ∧ (engine small 0xE#4 [1]).ports.rst = 0 := by decide

theorem witness_WaitLoadsFit :
    (engine { small with tBit := 4294967295 } 0x9#4 [1]).params.Legal ∧
    (engine { small with tBit := 4294967295 } 0x9#4 [1]).lineS = 1 := by decide

theorem witness_StrictSelectsOutcome :
    (engine small 0xC#4 []).params.strictChecksum = 0 ∧
    (engine { small with strictChecksum := 1 } 0xC#4 []).params.strictChecksum = 1 ∧
    byteSum 0x32001400 = 0x46 ∧ byteSum 0x32001400 ≠ 0x47 := by decide

theorem witness_ReferenceIgnoresChecksum : (engine small 0xC#4 []).params.strictChecksum = 0 := by decide

theorem witness_PresentReadingIsRawOver256 :
    { engine small 0xD#4 [1] with rptStatus := 0b01#2, rptHum := 0xFFFF }.ports.rst = 0 ∧
    { engine small 0xD#4 [1] with rptStatus := 0b01#2, rptHum := 0xFFFF }.st = 0xD#4 ∧
    { engine small 0xD#4 [1] with rptStatus := 0b01#2, rptHum := 0xFFFF }.rptStatus = 0b01#2 := by decide

theorem witness_ResetSilencesOutputs :
    (driven small 0xD#4 [⟨1, 0, 1⟩]).HasEngine ∧ (driven small 0xD#4 [⟨1, 0, 1⟩]).ports.rst = 1 := by decide

theorem witness_NonSamplingRulesIgnoreLine :
    Instr.startLo ∉ [Instr.presence, .waitHi, .waitLo, .sample] ∧
    (nextOf (exec .startLo (engine small 0x4#4 [1]))).isSome := by decide

/-! ### Witnesses: rules of the whole machine -/

theorem witness_OnlyListedStatesWrite :
    (engine small 0x0#4 [1]).ports.rst = 0 ∧
    after (engine small 0x0#4 [1]) (fun t => decide (t.wcnt ≠ (engine small 0x0#4 [1]).wcnt)) = some true := by
  decide

/-- Into REPORT from PRESENCE, from a busy-wait and from CHECK, with the report registers changed. -/
theorem witness_ReportWrittenOnlyEnteringReport :
    ({ engine small 0x7#4 [1] with rptHum := 1 } : State).ports.rst = 0 ∧
    after { engine small 0x7#4 [1] with rptHum := 1 } (fun t => (t.st, t.rptHum)) = some (0xD#4, 0) ∧
    (engine { small with busyGuard := 1 } 0x8#4 [1]).ports.rst = 0 ∧
    after (engine { small with busyGuard := 1 } 0x8#4 [1]) (fun t => t.st) = some 0xD#4 ∧
    ({ engine small 0xC#4 [1] with data := 1 } : State).ports.rst = 0 ∧
    after { engine small 0xC#4 [1] with data := 1 } (fun t => (t.st, t.rptTemp)) = some (0xD#4, 1) := by
  decide

theorem witness_PollerLoopSuccessors :
    (engine small 0x7#4 [0]).ports.rst = 0 ∧ (engine small 0x7#4 [0]).cancelQ = 0 ∧
    (engine small 0x7#4 [0]).ports.cancel = 0 ∧ (nextOf (step (engine small 0x7#4 [0]))).isSome := by decide

theorem witness_CancellationIsMonotonic_input :
    (driven small 0x9#4 [⟨0, 1, 0⟩]).ports.rst = 0 ∧ (driven small 0x9#4 [⟨0, 1, 0⟩]).ports.cancel = 1 ∧
    (nextOf (step (driven small 0x9#4 [⟨0, 1, 0⟩]))).isSome := by decide

theorem witness_CancellationIsMonotonic_latch :
    NoReset { engine small 0xE#4 [0, 1] with cancelQ := 1 } 2 ∧
    { engine small 0xE#4 [0, 1] with cancelQ := 1 }.cancelQ = 1 ∧
    (nextOf (runFor 2 { engine small 0xE#4 [0, 1] with cancelQ := 1 })).isSome := by
  unfold NoReset
  decide

theorem witness_CancellationHasZeroLatency :
    (driven small 0x9#4 (stimulusOf [0, 0, 0, 0] (some 2))).HasEngine ∧
    NoReset (driven small 0x9#4 (stimulusOf [0, 0, 0, 0] (some 2))) (2 + 1 + 1) ∧
    ((driven small 0x9#4 (stimulusOf [0, 0, 0, 0] (some 2))).portsAt 2).cancel = 1 ∧
    ((driven small 0x9#4 (stimulusOf [0, 0, 0, 0] (some 2))).portsAt 1).cancel = 0 := by
  unfold NoReset
  decide

theorem witness_CancelledIsQuiescent :
    (driven small 0xE#4 [⟨0, 1, 0⟩, ⟨0, 0, 1⟩]).HasEngine ∧
    NoReset (driven small 0xE#4 [⟨0, 1, 0⟩, ⟨0, 0, 1⟩]) 2 ∧
    (driven small 0xE#4 [⟨0, 1, 0⟩, ⟨0, 0, 1⟩]).st = 0xE#4 := by
  unfold NoReset
  decide

theorem witness_LineIsPadDelayed_no_stage : (engine small 0x0#4 [0]).params.syncStages = 0 := by decide

theorem witness_LineIsPadDelayed :
    (engine { small with syncStages := 2 } 0x0#4 [0, 1, 1]).HasEngine ∧
    0 < (engine { small with syncStages := 2 } 0x0#4 [0, 1, 1]).params.syncStages ∧
    NoReset (engine { small with syncStages := 2 } 0x0#4 [0, 1, 1])
      (0 + (engine { small with syncStages := 2 } 0x0#4 [0, 1, 1]).params.syncStages) ∧
    (nextOf (runFor (0 + (engine { small with syncStages := 2 } 0x0#4 [0, 1, 1]).params.syncStages)
      (engine { small with syncStages := 2 } 0x0#4 [0, 1, 1]))).isSome := by
  unfold NoReset
  decide

theorem witness_NoSampleBeforeChainIsFilled :
    { small with syncStages := 7 }.Legal ∧ 6 < 7 ∧
    NoReset { State.resetOf { small with syncStages := 7 } with
      stimulus := stimulusOf [0, 0, 0, 0, 0, 0, 0] none, tick := 0 } 6 ∧
    (nextOf (runFor 6 { State.resetOf { small with syncStages := 7 } with
      stimulus := stimulusOf [0, 0, 0, 0, 0, 0, 0] none, tick := 0 })).isSome := by
  unfold NoReset
  decide

theorem witness_EngineNeverStops : State.reset.HasEngine := by decide

/-! ### Witnesses: the invariant -/

/-- The engine, the codes and the latch. -/
abbrev CodeParts (s : State) : Prop :=
  s.HasEngine ∧ s.st ≠ 0xF#4 ∧ (s.cancelQ = 1 ↔ s.st = 0xE#4)

/-- The pins. -/
abbrev PinParts (s : State) : Prop :=
  (s.pinPull = 0b00#2 ∨ s.pinPull = 0b01#2) ∧
  (s.st ∈ [0x0#4, 0x6#4, 0x7#4, 0x8#4, 0x9#4, 0xA#4, 0xB#4, 0xC#4, 0xD#4] →
    s.pinDir = 0 ∧ s.pinOut = 0) ∧
  (s.st ∈ [0x6#4, 0x7#4, 0x8#4, 0x9#4, 0xA#4, 0xB#4, 0xC#4, 0xD#4] → s.pinPull = 0b01#2) ∧
  (s.st ∈ [0x1#4, 0x2#4, 0x3#4, 0x4#4] → s.pinDir = 1 ∧ s.pinOut = 1) ∧
  (s.st = 0x5#4 → s.pinDir = 1 ∧ s.pinOut = 0)

/-- The counters. -/
abbrev CounterParts (s : State) : Prop :=
  (∀ n ∈ (waitConstant s.params s.st).toList,
    1 ≤ s.wcnt.toNat ∧ s.wcnt.toNat ≤ n * s.params.unitCycles) ∧
  s.bidx.toNat ≤ 40 ∧ (s.st ∈ [0x8#4, 0x9#4, 0xA#4, 0xB#4] → s.bidx.toNat < 40) ∧
  (s.st = 0xC#4 → s.bidx.toNat = 40) ∧
  (s.st ∈ [0x8#4, 0x9#4] → 0 < s.params.busyGuard → s.bwc.toNat < s.params.busyGuard)

/-- The parts, each decidable, give the invariant for a state whose last report is Absent. -/
theorem engineInv_of_parts {s : State} (code : CodeParts s) (pins : PinParts s) (counters : CounterParts s)
    (report : reportOf s = (0b00#2, 0, 0, 0, 0, 0)) : EngineInv s := by
  obtain ⟨e, nr, la⟩ := code
  obtain ⟨p1, p2, p3, p4, p5⟩ := pins
  obtain ⟨c1, c2, c3, c4, c5⟩ := counters
  obtain ⟨r, f⟩ := Prod.mk.inj report
  have f' : s.rptHum = 0 ∧ s.rptTemp = 0 ∧ s.rptChk = 0 ∧ s.rptCalc = 0 ∧ s.rptChkOk = 0 := by
    simpa using f
  exact
    { engine := e, notReserved := nr, latch := la, pins := ⟨p1, p2, p3, p4, p5⟩
      counters := ⟨fun n hn => c1 n (by simp [hn]), c2, c3, c4, c5⟩
      report := ⟨fun _ => f', by simp [r], by simp [r], by simp [r], by simp [r]⟩
      frame := ⟨by simp [r]⟩ }

/-- The engine in INTER_WAIT as a run from reset has it. -/
def inInterWait (placed : List Ports) : State :=
  { driven small 0x1#4 placed with wcnt := 1, pinDir := 1, pinOut := 1 }

/-- The engine in RELEASE. -/
def inRelease (placed : List Ports) : State := { driven small 0x5#4 placed with pinDir := 1 }

/-- The engine in WAIT_HI at its last bit, one stay-sample below its guard. -/
def inWaitHi (placed : List Ports) : State :=
  { driven { small with busyGuard := 3 } 0x8#4 placed with pinPull := 0b01#2, bidx := 39, bwc := 2 }

theorem witness_ResetHasEngineInv : small.Legal := by decide

theorem witness_StepKeepsEngineInv_interWait :
    EngineInv (inInterWait [⟨0, 0, 1⟩]) ∧ (nextOf (step (inInterWait [⟨0, 0, 1⟩]))).isSome :=
  ⟨engineInv_of_parts (by decide) (by decide) (by decide) (by decide), by decide⟩

theorem witness_StepKeepsEngineInv_waitHi :
    EngineInv (inWaitHi [⟨0, 0, 1⟩]) ∧ (nextOf (step (inWaitHi [⟨0, 0, 1⟩]))).isSome :=
  ⟨engineInv_of_parts (by decide) (by decide) (by decide) (by decide), by decide⟩

theorem witness_SamplesOnlyWhileInput :
    EngineInv (inWaitHi [⟨0, 0, 1⟩]) ∧ (inWaitHi [⟨0, 0, 1⟩]).outputs.pinRdO = 1 :=
  ⟨engineInv_of_parts (by decide) (by decide) (by decide) (by decide), by decide⟩

theorem witness_CancellationLeavesPin_high :
    EngineInv (inInterWait [⟨0, 1, 1⟩]) ∧ (inInterWait [⟨0, 1, 1⟩]).ports.rst = 0 ∧
    (inInterWait [⟨0, 1, 1⟩]).ports.cancel = 1 ∧ (inInterWait [⟨0, 1, 1⟩]).st ≠ 0xE#4 ∧
    (nextOf (step (inInterWait [⟨0, 1, 1⟩]))).isSome ∧
    decodeState (inInterWait [⟨0, 1, 1⟩]).st ∈
      [Instr.interWait, .startHi, .startWait, .startLo] :=
  ⟨engineInv_of_parts (by decide) (by decide) (by decide) (by decide), by decide⟩

theorem witness_CancellationLeavesPin_low :
    EngineInv (inRelease [⟨0, 1, 1⟩]) ∧ (inRelease [⟨0, 1, 1⟩]).ports.rst = 0 ∧
    (inRelease [⟨0, 1, 1⟩]).ports.cancel = 1 ∧ (inRelease [⟨0, 1, 1⟩]).st ≠ 0xE#4 ∧
    (nextOf (step (inRelease [⟨0, 1, 1⟩]))).isSome ∧
    decodeState (inRelease [⟨0, 1, 1⟩]).st = .release :=
  ⟨engineInv_of_parts (by decide) (by decide) (by decide) (by decide), by decide⟩

theorem witness_CancellationLeavesPin_released :
    EngineInv (inWaitHi [⟨0, 1, 1⟩]) ∧ (inWaitHi [⟨0, 1, 1⟩]).ports.rst = 0 ∧
    (inWaitHi [⟨0, 1, 1⟩]).ports.cancel = 1 ∧ (inWaitHi [⟨0, 1, 1⟩]).st ≠ 0xE#4 ∧
    (nextOf (step (inWaitHi [⟨0, 1, 1⟩]))).isSome ∧
    decodeState (inWaitHi [⟨0, 1, 1⟩]).st ∈ [Instr.arm, .respWait, .presence, .waitHi, .waitLo,
      .bitWait, .sample, .check, .report] :=
  ⟨engineInv_of_parts (by decide) (by decide) (by decide) (by decide), by decide⟩

/-! ### Witnesses: many cycles -/

theorem witness_WaitStateOccupiesItsCount :
    (Instr.respWait, Instr.presence) ∈ [(Instr.interWait, Instr.startHi), (.startWait, .startLo),
      (.respWait, .presence), (.bitWait, .sample)] ∧
    { engine small 0x6#4 [0, 1, 0] with wcnt := 3 }.HasEngine ∧
    { engine small 0x6#4 [0, 1, 0] with wcnt := 3 }.st = Instr.respWait.code ∧
    1 ≤ { engine small 0x6#4 [0, 1, 0] with wcnt := 3 }.wcnt.toNat ∧
    Quiet { engine small 0x6#4 [0, 1, 0] with wcnt := 3 }
      { engine small 0x6#4 [0, 1, 0] with wcnt := 3 }.wcnt.toNat := by
  unfold Quiet
  decide

theorem witness_StuckLineHangs_high :
    (engine small 0x8#4 [1, 1, 1]).HasEngine ∧ (engine small 0x8#4 [1, 1, 1]).params.busyGuard = 0 ∧
    Quiet (engine small 0x8#4 [1, 1, 1]) 3 ∧
    (engine small 0x8#4 [1, 1, 1]).st = 0x8#4 ∧ ∀ j < 3, lineAt (engine small 0x8#4 [1, 1, 1]) j = 1 := by
  unfold Quiet
  decide

theorem witness_StuckLineHangs_low :
    (engine small 0x9#4 [0, 0, 0]).HasEngine ∧ (engine small 0x9#4 [0, 0, 0]).params.busyGuard = 0 ∧
    Quiet (engine small 0x9#4 [0, 0, 0]) 3 ∧
    (engine small 0x9#4 [0, 0, 0]).st = 0x9#4 ∧ ∀ j < 3, lineAt (engine small 0x9#4 [0, 0, 0]) j = 0 := by
  unfold Quiet
  decide

theorem witness_GuardEndsBusyWait_clauses :
    (engine small 0x8#4 [1]).lineS = 1 ∧ (engine small 0x9#4 [0]).lineS = 0 := by decide

/-- P5a: a guard of one stay-sample. -/
theorem witness_GuardEndsBusyWait_high :
    (engine { small with busyGuard := 1 } 0x8#4 [1]).HasEngine ∧
    0 < (engine { small with busyGuard := 1 } 0x8#4 [1]).params.busyGuard ∧
    (engine { small with busyGuard := 1 } 0x8#4 [1]).bwc = 0 ∧
    Quiet (engine { small with busyGuard := 1 } 0x8#4 [1]) 1 ∧
    (engine { small with busyGuard := 1 } 0x8#4 [1]).st = 0x8#4 ∧
    ∀ j < 1, lineAt (engine { small with busyGuard := 1 } 0x8#4 [1]) j = 1 := by
  unfold Quiet
  decide

/-- P5: a guard of three. -/
theorem witness_GuardEndsBusyWait_low :
    (engine { small with busyGuard := 3 } 0x9#4 [0, 0, 0]).HasEngine ∧
    0 < (engine { small with busyGuard := 3 } 0x9#4 [0, 0, 0]).params.busyGuard ∧
    (engine { small with busyGuard := 3 } 0x9#4 [0, 0, 0]).bwc = 0 ∧
    Quiet (engine { small with busyGuard := 3 } 0x9#4 [0, 0, 0]) 3 ∧
    (engine { small with busyGuard := 3 } 0x9#4 [0, 0, 0]).st = 0x9#4 ∧
    ∀ j < 3, lineAt (engine { small with busyGuard := 3 } 0x9#4 [0, 0, 0]) j = 0 := by
  unfold Quiet
  decide

theorem witness_ShiftAccumulateLaw : ([0, 1, 0, 0, 0, 1, 1, 0] : List Bit).length = 8 := by decide

theorem witness_BitIsSampledAfterSettle :
    { engine small 0x9#4 [1, 1, 1] with bidx := 31 }.HasEngine ∧
    { engine small 0x9#4 [1, 1, 1] with bidx := 31 }.st = 0x9#4 ∧
    { engine small 0x9#4 [1, 1, 1] with bidx := 31 }.lineS = 1 ∧
    Quiet { engine small 0x9#4 [1, 1, 1] with bidx := 31 }
      ({ engine small 0x9#4 [1, 1, 1] with bidx := 31 }.params.tBit *
        { engine small 0x9#4 [1, 1, 1] with bidx := 31 }.params.unitCycles + 2) ∧
    { engine small 0x9#4 [1, 1, 1] with bidx := 31 }.bidx.toNat < 32 := by
  unfold Quiet
  decide

theorem witness_BitIsSampledAfterSettle_checksum :
    { engine small 0x9#4 [1, 1, 0] with bidx := 32 }.HasEngine ∧
    { engine small 0x9#4 [1, 1, 0] with bidx := 32 }.st = 0x9#4 ∧
    { engine small 0x9#4 [1, 1, 0] with bidx := 32 }.lineS = 1 ∧
    Quiet { engine small 0x9#4 [1, 1, 0] with bidx := 32 }
      ({ engine small 0x9#4 [1, 1, 0] with bidx := 32 }.params.tBit *
        { engine small 0x9#4 [1, 1, 0] with bidx := 32 }.params.unitCycles + 2) ∧
    32 ≤ { engine small 0x9#4 [1, 1, 0] with bidx := 32 }.bidx.toNat := by
  unfold Quiet
  decide

/-- A bit of value 1, two cycles in WAIT_HI and three in WAIT_LO, under a guard of three. -/
def slowPulse : Pulse := { hi := 2, lo := 3, value := 1 }

/-- The engine at its last bit, with `slowPulse` on the line. -/
def beforeSlowPulse : State :=
  { engine { small with busyGuard := 3 } 0x8#4 [1, 0, 0, 0, 1, 0, 1] with bidx := 39 }

theorem witness_OneBitIsAssembled :
    beforeSlowPulse.HasEngine ∧ beforeSlowPulse.st = 0x8#4 ∧ beforeSlowPulse.bwc = 0 ∧
    beforeSlowPulse.bidx.toNat < 40 ∧ Quiet beforeSlowPulse (slowPulse.cycles beforeSlowPulse.params) ∧
    PulseAt beforeSlowPulse 0 slowPulse := by
  unfold Quiet PulseAt
  decide

/-- P1: the line is High throughout. -/
def absentSensor : State := engine small 0x0#4 (List.replicate 10 1)

theorem witness_AbsentPollCycle :
    10 = 6 + (absentSensor.params.tInter + absentSensor.params.tStart + absentSensor.params.tResp) *
      absentSensor.params.unitCycles ∧
    absentSensor.HasEngine ∧ absentSensor.st = 0x0#4 ∧ Quiet absentSensor 10 ∧
    lineAt absentSensor (10 - 2) = 1 := by
  unfold Quiet
  decide

/-! P2: the waveform of the source's frame, `1×8, 0` and then one group of four cycles a bit. -/

/-- `0x32001400` and `0x46`. -/
def frameOfSource : BitVec 40 := 0x3200140046#40

/-- The bits of the frame, most significant first. -/
def frameBits : List Bit := (List.range 40).map fun k => BitVec.ofBool (frameOfSource.getLsbD (39 - k))

/-- The quickest pulse of each bit. -/
def framePulses : List Pulse := frameBits.map fun b => { hi := 1, lo := 1, value := b }

/-- That waveform. -/
def framePins : List Bit :=
  List.replicate 8 1 ++ [0] ++ (frameBits.map fun b => [0, 1, b, b]).flatten ++ [1, 1]

/-- The engine at ARM with that waveform. -/
def frameSensor : State := engine small 0x0#4 framePins

/-- Pulses on the line from an index on, checked one by one. -/
theorem pulsesAt_of_forall {s : State} {w : Nat} :
    ∀ (bs : List Pulse) (c : Nat), (∀ b ∈ bs, b.cycles s.params = w) →
      (∀ k (h : k < bs.length), PulseAt s (c + k * w) bs[k]) → PulsesAt s c bs
  | [], _, _, _ => trivial
  | b :: rest, c, hw, h => by
    refine ⟨?_, ?_⟩
    · have first := h 0 (by simp)
      rwa [Nat.zero_mul, Nat.add_zero] at first
    · rw [hw b (by simp)]
      refine pulsesAt_of_forall rest (c + w) (fun x hx => hw x (by simp [hx])) fun k hk => ?_
      have next := h (k + 1) (by simpa using hk)
      rwa [Nat.add_mul, Nat.one_mul, show c + (k * w + w) = c + w + k * w by omega] at next

theorem frameSensor_waveform : PulsesAt frameSensor (8 + 1) framePulses := by
  refine pulsesAt_of_forall (w := 4) framePulses 9 (by decide) ?_
  unfold PulseAt
  decide

/-- Placed pad levels alone bring neither reset nor cancellation. -/
theorem engine_quiet (p : Params) (st : StateCode) (pins : List Bit) (n : Nat) (h : n ≤ pins.length) :
    Quiet (engine p st pins) n := by
  refine ⟨rfl, fun j hj => ?_⟩
  have placed : (stimulusOf pins none)[j]? = some ⟨0, 0, pins[j]⟩ := by
    simp [stimulusOf, List.getElem?_eq_getElem (show j < pins.length by omega)]
  simp [State.portsAt, engine, placed]

theorem witness_FramePollCycle :
    (8 = 4 + (frameSensor.params.tInter + frameSensor.params.tStart + frameSensor.params.tResp) *
        frameSensor.params.unitCycles ∧
      171 = 8 + 1 + pulsesCycles frameSensor.params framePulses + 2) ∧
    (frameSensor.HasEngine ∧ frameSensor.st = 0x0#4) ∧ Quiet frameSensor 171 ∧
    lineAt frameSensor 8 = 0 ∧ PulsesAt frameSensor (8 + 1) framePulses ∧
    CarriesFrame framePulses frameOfSource :=
  ⟨by decide, by decide, engine_quiet _ _ _ _ (by simp [framePins, frameBits, Function.comp_def]),
    by decide, frameSensor_waveform, by unfold CarriesFrame; decide⟩

end Sys2Proof.Tests
end

/-! SUPPORT. The proofs about the scope of the model (00_scope.md): which states have an engine (R7), that under
legal parameters the wait loads are whole (30_encoding.md R88), and that only a sampling rule reads the line
(R12, 10_state.md R35). -/

namespace Sys2Proof.Machine

/-! ### States without an engine -/

/-- Where there is no engine, the step is refused (log entry 15): the case `step_cases` leaves out. -/
theorem step_noEngine {s : State} (h : ¬ s.HasEngine) : step s = .refused .illegalInstance := by
  unfold step clockEdge
  rw [if_neg h]

/-- Settles O8: legal parameters are part of having an engine. -/
theorem illegalInstanceIsRefused : Obligations.IllegalInstanceIsRefused :=
  fun _ illegal => step_noEngine fun ⟨legal, _⟩ => illegal legal

/-! ### Wait loads under legal parameters -/

/-- High is the level that ends WAIT_LO: `bwc` is cleared and the settle delay is loaded (R132). -/
theorem exec_waitLo_high {s : State} (h : s.lineS = 1) :
    exec .waitLo s = .next (((s.setBwc 0).loadWait s.params.tBit).goTo .bitWait) := by
  have notLow : s.pinSample ≠ 0 := by
    rw [State.pinSample, h]
    decide
  show execWaitLo s = _
  unfold execWaitLo
  rw [if_neg notLow]

/-- Settles O23: R7 makes each product fit the counter, and the writes before a load leave the parameters. -/
theorem waitLoadsFit : Obligations.WaitLoadsFit := by
  intro s legal
  obtain ⟨-, -, -, -, -, -, -, -, -, interFits, startFits, respFits, bitFits⟩ := legal
  refine ⟨⟨_, rfl, ?arm⟩, ⟨_, rfl, ?startHi⟩, ⟨_, rfl, ?release⟩,
    fun high => ⟨_, exec_waitLo_high high, ?waitLo⟩⟩
  case arm => exact State.loadWait_wcnt_toNat _ interFits
  case startHi => exact State.loadWait_wcnt_toNat _ startFits
  case release => exact State.loadWait_wcnt_toNat _ respFits
  case waitLo => exact State.loadWait_wcnt_toNat (s.setBwc 0) bitFits

/-! ### Rules that do not sample -/

/-- Countdown reads the wait counter, and neither the synchroniser nor the placed inputs (R115). -/
theorem State.countdown_withLine (s : State) (next : Instr) (chain : List Bit) (placed : List Ports) :
    State.countdown { s with sync := chain, stimulus := placed } next =
      { s.countdown next with sync := chain, stimulus := placed } := by
  unfold State.countdown
  by_cases done : s.wcnt.toNat ≤ 1
  · rw [if_pos done, if_pos done]
    rfl
  · rw [if_neg done, if_neg done]
    rfl

/-- Settles O30: a wait state counts down, and every other rule outside R35's list writes without a choice. -/
theorem nonSamplingRulesIgnoreLine : Obligations.NonSamplingRulesIgnoreLine := by
  intro i s t chain placed notSampling h
  cases i with
  | presence | waitHi | waitLo | sample => exact absurd (by decide) notSampling
  | interWait | startWait | respWait | bitWait =>
    obtain rfl := Host.Outcome.next.inj h
    exact congrArg Host.Outcome.next (s.countdown_withLine _ chain placed)
  | arm | startHi | startLo | release | check | report | cancelled | reservedF =>
    obtain rfl := Host.Outcome.next.inj h
    rfl

end Sys2Proof.Machine

/-! SUPPORT. The proofs about the registers (10_state.md): what each state rule writes (the last column of R23),
what an edge makes of the latch (R31), the synchroniser (R32, R33) and the inputs, and the invariant that every
edge keeps. -/

namespace Sys2Proof.Machine

/-! ### What each state rule writes -/

/-- The four wait states, each with its successor (40_start_signal.md R115). -/
inductive WaitPair : Instr → Instr → Prop
  | interWait : WaitPair .interWait .startHi
  | startWait : WaitPair .startWait .startLo
  | respWait : WaitPair .respWait .presence
  | bitWait : WaitPair .bitWait .sample

/-- The effect of the state rules on the registers, one constructor per branch: `RuleEffect s i t` says that the
rule of `i` takes `s` to `t` by a branch whose guard holds in `s`. -/
inductive RuleEffect (s : State) : Instr → State → Prop
  | arm : RuleEffect s .arm { s with
      pinDir := 1, pinOut := 1, wcnt := (s.loadWait s.params.tInter).wcnt, st := 0x1#4 }
  | waitEnds {wait next : Instr} (pair : WaitPair wait next) (low : s.wcnt.toNat ≤ 1) :
      RuleEffect s wait { s with wcnt := 0, st := next.code }
  | waitCounts {wait next : Instr} (pair : WaitPair wait next) (more : 1 < s.wcnt.toNat) :
      RuleEffect s wait { s with wcnt := s.wcnt - 1 }
  | startHi : RuleEffect s .startHi { s with
      pinDir := 1, pinOut := 1, wcnt := (s.loadWait s.params.tStart).wcnt, st := 0x3#4 }
  | startLo : RuleEffect s .startLo { s with pinOut := 0, st := 0x5#4 }
  | release : RuleEffect s .release { s with
      pinDir := 0, pinPull := 0b01#2, wcnt := (s.loadWait s.params.tResp).wcnt, st := 0x6#4 }
  | absent (high : s.lineS = 1) : RuleEffect s .presence (s.deliver (.zero .absent))
  | present (low : s.lineS ≠ 1) : RuleEffect s .presence { s with
      data := 0, chk := 0, bidx := 0, bwc := 0, st := 0x8#4 }
  | stayTimesOut {busy : Instr} (hb : busy = .waitHi ∨ busy = .waitLo) (fires : s.GuardFires) :
      RuleEffect s busy (s.deliver (.zero .timeout))
  | stayCounts {busy : Instr} (hb : busy = .waitHi ∨ busy = .waitLo) (below : ¬ s.GuardFires) :
      RuleEffect s busy { s with bwc := s.bwc + 1 }
  | waitHiEnds (low : s.lineS ≠ 1) : RuleEffect s .waitHi { s with bwc := 0, st := 0x9#4 }
  | waitLoEnds (high : s.lineS ≠ 0) : RuleEffect s .waitLo { s with
      bwc := 0, wcnt := (s.loadWait s.params.tBit).wcnt, st := 0xA#4 }
  | sampleData (field : s.bidx.toNat < 32) : RuleEffect s .sample { s with
      data := shiftIn s.data s.lineS, bidx := s.bidx + 1, bwc := 0, st := 0x8#4 }
  | sampleChk (field : 32 ≤ s.bidx.toNat) (more : s.bidx ≠ 39) : RuleEffect s .sample { s with
      chk := shiftIn s.chk s.lineS, bidx := s.bidx + 1, bwc := 0, st := 0x8#4 }
  | sampleLast (last : s.bidx = 39) : RuleEffect s .sample { s with
      chk := shiftIn s.chk s.lineS, bidx := s.bidx + 1, bwc := 0, st := 0xC#4 }
  | check : RuleEffect s .check (s.deliver (.ofFrame s.params.strictChecksum s.data s.chk))
  | report : RuleEffect s .report { s with st := 0x0#4 }
  | cancelled : RuleEffect s .cancelled s
  | reservedF : RuleEffect s .reservedF { s with st := 0xE#4 }

/-- Countdown is one of the two effects of a wait state (R115). -/
theorem RuleEffect.countdown {s : State} {wait next : Instr} (pair : WaitPair wait next) :
    RuleEffect s wait (s.countdown next) := by
  rcases s.countdown_cases next with ⟨low, h⟩ | ⟨more, h⟩
  · rw [h]
    exact .waitEnds pair low
  · rw [h]
    exact .waitCounts pair more

/-- BusyStay is one of the two effects of a busy-wait at its stay level (R135). -/
theorem RuleEffect.busyStay {s : State} {busy : Instr} (hb : busy = .waitHi ∨ busy = .waitLo) :
    RuleEffect s busy s.busyStay := by
  rcases s.busyStay_cases with ⟨fires, h⟩ | ⟨below, h⟩
  · rw [h]
    exact .stayTimesOut hb fires
  · rw [h]
    exact .stayCounts hb below

/-- The two selections of SAMPLE, the field by `bidx < 32` and the successor by `bidx = 39` (R134). -/
theorem execSample_effect (s : State) : ∃ t, execSample s = .next t ∧ RuleEffect s .sample t := by
  refine ⟨_, rfl, ?_⟩
  unfold State.accumulate
  by_cases field : s.bidx.toNat < 32
  · have more : s.bidx ≠ 39 := by bv_omega
    rw [if_pos field, if_neg more]
    exact .sampleData field
  · rw [if_neg field]
    by_cases last : s.bidx = 39
    · rw [if_pos last]
      exact .sampleLast last
    · rw [if_neg last]
      exact .sampleChk (Nat.le_of_not_lt field) last

/-- Every rule answers a next state by one of its branches. -/
theorem exec_next_effect (i : Instr) (s : State) : ∃ t, exec i s = .next t ∧ RuleEffect s i t := by
  cases i with
  | arm => exact ⟨_, rfl, .arm⟩
  | startHi => exact ⟨_, rfl, .startHi⟩
  | startLo => exact ⟨_, rfl, .startLo⟩
  | release => exact ⟨_, rfl, .release⟩
  | check => exact ⟨_, rfl, .check⟩
  | report => exact ⟨_, rfl, .report⟩
  | cancelled => exact ⟨_, rfl, .cancelled⟩
  | reservedF => exact ⟨_, rfl, .reservedF⟩
  | interWait => exact ⟨_, rfl, .countdown .interWait⟩
  | startWait => exact ⟨_, rfl, .countdown .startWait⟩
  | respWait => exact ⟨_, rfl, .countdown .respWait⟩
  | bitWait => exact ⟨_, rfl, .countdown .bitWait⟩
  | presence =>
    show ∃ t, execPresence s = .next t ∧ _
    unfold execPresence
    split
    · next high => exact ⟨_, rfl, .absent high⟩
    · next low => exact ⟨_, rfl, .present low⟩
  | waitHi =>
    show ∃ t, execWaitHi s = .next t ∧ _
    unfold execWaitHi
    split
    · exact ⟨_, rfl, .busyStay (.inl rfl)⟩
    · next low => exact ⟨_, rfl, .waitHiEnds low⟩
  | waitLo =>
    show ∃ t, execWaitLo s = .next t ∧ _
    unfold execWaitLo
    split
    · exact ⟨_, rfl, .busyStay (.inr rfl)⟩
    · next high => exact ⟨_, rfl, .waitLoEnds high⟩
  | sample => exact execSample_effect s

/-- Everything the rule of a state can do. -/
theorem exec_effect {i : Instr} {s t : State} (h : exec i s = .next t) : RuleEffect s i t := by
  obtain ⟨u, hu, effect⟩ := exec_next_effect i s
  rw [hu] at h
  exact Host.Outcome.next.inj h ▸ effect

/-- An edge without reset is a cancellation or an effect of the rule of the state (R40). -/
theorem step_effect {s u : State} (hr : s.ports.rst = 0) (h : step s = .next u) :
    (s.cx = 1 ∧ u = s.endCycle s.raiseCancel) ∨
    (s.cx = 0 ∧ ∃ t, RuleEffect s s.fetch t ∧ u = s.endCycle t) := by
  rcases step_cases h with ⟨-, ⟨reset, -⟩ | ⟨-, cancel⟩ | ⟨-, quiet, t, ht, -, rfl⟩⟩
  · rw [hr] at reset
    exact absurd reset (by decide)
  · exact .inl cancel
  · exact .inr ⟨quiet, t, exec_effect ht, rfl⟩

/-- The state register holds the code of the instruction it selects (30_encoding.md R90). -/
theorem code_decodeState : ∀ w : StateCode, (decodeState w).code = w := by decide

/-- In every state `st` is the code of the instruction that the edge applies. -/
theorem State.st_eq_code (s : State) : s.st = s.fetch.code := (code_decodeState s.st).symm

/-! ### Which states write which register (R23, R34) -/

/-- Settles O31: a cancellation writes none of these registers, and each branch of a rule only those whose list
names its state. -/
theorem onlyListedStatesWrite : Obligations.OnlyListedStatesWrite := by
  intro s t hr h
  obtain ⟨-, rfl⟩ | ⟨-, r, effect, rfl⟩ := step_effect hr h
  · simp [State.raiseCancel]
  · change RuleEffect s (decodeState s.st) r at effect
    generalize decodeState s.st = i at effect ⊢
    cases effect with
    | waitEnds pair | waitCounts pair => cases pair <;> simp
    | stayTimesOut busy | stayCounts busy => obtain rfl | rfl := busy <;> simp [State.deliver_eq]
    | _ => simp [State.deliver_eq]

/-- Settles O32: only a branch that delivers a report writes the report registers or enters REPORT; a wait or a
busy-wait that goes on stays in its own state. -/
theorem reportWrittenOnlyEnteringReport : Obligations.ReportWrittenOnlyEnteringReport := by
  intro s t hr h
  obtain ⟨-, rfl⟩ | ⟨-, r, effect, rfl⟩ := step_effect hr h
  · simp [State.raiseCancel, Instr.code]
  · have code : s.st = (decodeState s.st).code := s.st_eq_code
    change RuleEffect s (decodeState s.st) r at effect
    generalize decodeState s.st = i at effect code ⊢
    cases effect with
    | waitEnds pair | waitCounts pair => cases pair <;> simp [code, Instr.code]
    | stayTimesOut busy | stayCounts busy =>
      obtain rfl | rfl := busy <;> simp [State.deliver_eq, code, Instr.code, Report.zero, Status.code]
    | _ => simp [State.deliver_eq, code, Instr.code, Report.zero, Status.code]

/-! ### The latch -/

/-- At every edge without reset the latch takes `cx` (R31). -/
theorem step_cancelQ {s t : State} (hr : s.ports.rst = 0) (h : step s = .next t) : t.cancelQ = s.cx := by
  obtain ⟨-, rfl⟩ | ⟨-, r, -, rfl⟩ := step_effect hr h <;> rfl

/-! ### Input levels, and runs without reset -/

/-- A run of one cycle more is a step and a run. -/
theorem runFor_succ {n : Nat} {s t : State} (h : runFor (n + 1) s = .next t) :
    ∃ u, step s = .next u ∧ runFor n u = .next t := by
  rw [runFor] at h
  split at h
  · next u hu => exact ⟨u, hu, h⟩
  · cases h
  · cases h

/-- Every edge brings up the next cycle's input levels. -/
theorem step_portsAt {s t : State} (h : step s = .next t) (j : Nat) : t.portsAt j = s.portsAt (j + 1) := by
  obtain ⟨-, ⟨-, rfl⟩ | ⟨-, -, rfl⟩ | ⟨-, -, r, -, -, rfl⟩⟩ := step_cases h <;> simp

/-- Settles O7: each kind of edge takes the first placed entry away and counts the tick. -/
theorem edgeAdvancesInputs : Obligations.EdgeAdvancesInputs := fun _ _ j h => step_portsAt h j

/-- A run without reset begins with a cycle without reset. -/
theorem NoReset.now {s : State} {n : Nat} (quiet : NoReset s (n + 1)) : s.ports.rst = 0 :=
  quiet 0 n.succ_pos

/-- After its first cycle a run without reset goes on without reset. -/
theorem NoReset.later {s t : State} {n : Nat} (quiet : NoReset s (n + 1)) (h : step s = .next t) :
    NoReset t n := by
  intro j hj
  rw [step_portsAt h]
  exact quiet (j + 1) (by omega)

/-- What every edge without reset keeps holds after any number of cycles without reset. -/
theorem runFor_keeps {P : State → Prop}
    (keep : ∀ s t : State, s.ports.rst = 0 → step s = .next t → P s → P t) :
    ∀ (n : Nat) (s t : State), NoReset s n → P s → runFor n s = .next t → P t := by
  intro n
  induction n with
  | zero =>
    intro s t _ hs h
    exact Host.Outcome.next.inj h ▸ hs
  | succ n ih =>
    intro s t quiet hs h
    obtain ⟨u, hu, run⟩ := runFor_succ h
    exact ih u t (quiet.later hu) (keep s u quiet.now hu hs) run

/-- Settles O34: once set, the latch sets `cx`, which the next edge takes. -/
theorem cancellationIsMonotonic : Obligations.CancellationIsMonotonic := by
  refine ⟨fun s t => step_cancelQ, fun s t hr hc h => ?_, runFor_keeps fun s t hr h hq => ?_⟩
  · rw [step_cancelQ hr h, State.cx_eq_one]
    exact .inr hc
  · rw [step_cancelQ hr h, State.cx_eq_one]
    exact .inl hq

/-! ### The synchroniser -/

/-- With a chain of `SYNC_STAGES` cells the shift drops the oldest (R32). -/
theorem State.shiftedSync_eq_take {s : State} (e : s.HasEngine) :
    s.shiftedSync = (s.ports.pinIn :: s.sync).take s.params.syncStages := by
  rw [State.shiftedSync, List.dropLast_eq_take, ← e.2]
  rfl

/-- What every edge keeps: an engine, and its parameters. -/
theorem step_engine {s t : State} (h : step s = .next t) : t.HasEngine ∧ t.params = s.params := by
  obtain ⟨⟨legal, length⟩, ⟨-, rfl⟩ | ⟨-, -, rfl⟩ | ⟨-, -, r, -, kept, rfl⟩⟩ := step_cases h
  · exact ⟨⟨legal, List.length_replicate⟩, rfl⟩
  · exact ⟨⟨legal, s.shiftedSync_length.trans length⟩, rfl⟩
  · have params : (s.endCycle r).params = s.params := kept.params
    refine ⟨?_, params⟩
    rw [State.HasEngine, params]
    exact ⟨legal, s.shiftedSync_length.trans length⟩

/-- At every edge without reset the synchroniser shifts (R32). -/
theorem step_sync {s t : State} (hr : s.ports.rst = 0) (h : step s = .next t) : t.sync = s.shiftedSync := by
  obtain ⟨-, rfl⟩ | ⟨-, r, -, rfl⟩ := step_effect hr h <;> rfl

/-- With at least one stage, `line_s` is the last cell of the chain (R33). -/
theorem State.sync_last {s : State} (e : s.HasEngine) (stages : 0 < s.params.syncStages) :
    s.sync[s.params.syncStages - 1]? = some s.lineS := by
  have last : s.params.syncStages - 1 < s.sync.length := by rw [e.2]; omega
  rw [State.lineS, if_neg stages.ne', List.getD_eq_getElem?_getD, List.getElem?_eq_getElem last,
    Option.getD_some]

/-- `line_s` of this cycle is the level that `lineAt` gives for no cycle later. -/
theorem lineAt_zero {s : State} (e : s.HasEngine) : lineAt s 0 = s.lineS := by
  unfold lineAt
  split
  · next noStage =>
    have noStage : s.params.syncStages = 0 := by omega
    rw [State.lineS, if_pos noStage, noStage]
    rfl
  · next stages =>
    rw [List.getD_eq_getElem?_getD, Nat.sub_zero, State.sync_last e (by omega), Option.getD_some]

/-- An edge without reset brings every later level of the line one cycle nearer: a level past the chain stays at
the pad, that of this cycle enters the chain, and one in the chain moves up a cell (R32). -/
theorem lineAt_step {s t : State} (hr : s.ports.rst = 0) (h : step s = .next t) (j : Nat) :
    lineAt t j = lineAt s (j + 1) := by
  have e : s.HasEngine := (step_cases h).1
  obtain ⟨-, params⟩ := step_engine h
  rw [lineAt, lineAt, params, step_portsAt h, step_sync hr h, State.shiftedSync_eq_take e]
  obtain past | entering | inside : s.params.syncStages ≤ j ∨ s.params.syncStages = j + 1 ∨
      j + 1 < s.params.syncStages := by omega
  · rw [if_pos past, if_pos (by omega),
      show j - s.params.syncStages + 1 = j + 1 - s.params.syncStages by omega]
  · simp [entering, State.ports]
  · have cell : s.params.syncStages - 1 - j = s.params.syncStages - 1 - (j + 1) + 1 := by omega
    rw [if_neg (by omega), if_neg (by omega), List.getD_eq_getElem?_getD,
      List.getElem?_take_of_lt (by omega), cell, List.getElem?_cons_succ, List.getD_eq_getElem?_getD]

/-- After `n` cycles without reset `line_s` is the level that `lineAt` gives for `n` cycles later. -/
theorem runFor_lineS : ∀ (n : Nat) (s t : State), s.HasEngine → NoReset s n → runFor n s = .next t →
    t.lineS = lineAt s n := by
  intro n
  induction n with
  | zero =>
    intro s t e _ h
    obtain rfl := Host.Outcome.next.inj h
    exact (lineAt_zero e).symm
  | succ n ih =>
    intro s t e quiet h
    obtain ⟨u, hu, run⟩ := runFor_succ h
    rw [ih u t (step_engine hu).1 (quiet.later hu) run, lineAt_step quiet.now hu]

/-- Settles O37: after `n + SYNC_STAGES` cycles the line is at the level the pad had after `n`. -/
theorem lineIsPadDelayed : Obligations.LineIsPadDelayed := by
  refine ⟨fun s noStage => if_pos noStage, fun s => State.sync_last, fun n s t e quiet h => ?_⟩
  rw [runFor_lineS _ s t e quiet h, lineAt, if_pos (Nat.le_add_left _ _), Nat.add_sub_cancel]

/-! ### The edge around a rule -/

/-- Settles O4: without reset and cancellation the edge is the rule, and the latch takes 0. -/
theorem stepRunsDecodedInstruction : Obligations.StepRunsDecodedInstruction := by
  intro s t i e hr hq hc hi h
  have quiet : s.cx = 0 := s.cx_eq_zero.mpr ⟨hq, hc⟩
  rw [step_rule e hr quiet (hi ▸ h), State.endCycle, quiet, State.shiftedSync_eq_take e]

/-! ### The outputs -/

/-- The codes of R35 are those of the instructions it names. -/
theorem mem_samplingStates : ∀ w : StateCode,
    w ∈ samplingStates ↔ decodeState w ∈ [Instr.presence, .waitHi, .waitLo, .sample] := by decide

/-- A state code selects an instruction exactly if it is the instruction's code (30_encoding.md R80, R90). -/
theorem decodeState_eq_iff (w : StateCode) (i : Instr) : decodeState w = i ↔ w = i.code := by
  constructor
  · rintro rfl
    exact (code_decodeState w).symm
  · rintro rfl
    cases i <;> decide

/-- An output written as a choice of 1 or 0 is 1 exactly under its condition. -/
theorem bit_ite_eq_one {c : Prop} [Decidable c] : (if c then (1 : Bit) else 0) = 1 ↔ c := by
  simp

/-- Settles O29: each of the three outputs is a choice of 1 or 0 by its condition, over the codes of `st`. -/
theorem combinationalOutputs : Obligations.CombinationalOutputs := by
  intro s
  rw [← mem_samplingStates, decodeState_eq_iff, decodeState_eq_iff]
  exact ⟨bit_ite_eq_one, bit_ite_eq_one, bit_ite_eq_one⟩

/-! ### The reset state -/

/-- Settles O9: the reset column is the definition itself, and its state code is that of ARM. -/
theorem resetStateHasResetColumn : Obligations.ResetStateHasResetColumn :=
  ⟨rfl, fun _ => ⟨rfl, Laws.CodeInTable.arm.1⟩⟩

/-! ### The invariant at reset -/

/-- Settles O40: the reset column agrees with ARM, a released line and an Absent report with zeros. -/
theorem resetHasEngineInv : Obligations.ResetHasEngineInv := by
  intro p placed k legal
  exact {
    engine := ⟨legal, List.length_replicate⟩
    notReserved := by simp
    latch := by simp
    pins := by constructor <;> simp
    counters := by constructor <;> simp [waitConstant]
    report := by constructor <;> simp
    frame := by constructor; simp }

/-! ### The invariant: pins -/

/-- The states from RESP_WAIT to REPORT, in which the line is released with the pull-up on. -/
abbrev pulledUpStates : List StateCode :=
  [0x6#4, 0x7#4, 0x8#4, 0x9#4, 0xA#4, 0xB#4, 0xC#4, 0xD#4]

/-- The levels of a released line with the pull-up on agree with every state from RESP_WAIT to REPORT. -/
theorem PinsAgree.of_pulledUp {t : State} (st : t.st ∈ pulledUpStates) (dir : t.pinDir = 0)
    (pull : t.pinPull = 0b01#2) (out : t.pinOut = 0) : PinsAgree t := by
  have apart : ∀ w ∈ pulledUpStates, w ∉ [0x1#4, 0x2#4, 0x3#4, 0x4#4] ∧ w ≠ 0x5#4 := by decide
  obtain ⟨notHigh, notLow⟩ := apart _ st
  exact ⟨.inr pull, fun _ => ⟨dir, out⟩, fun _ => pull, fun high => absurd high notHigh,
    fun low => absurd low notLow⟩

/-- An edge from one of these states to another, with the pin-control registers kept. -/
theorem PinsAgree.stays_pulledUp {s t : State} (pins : PinsAgree s) (before : s.st ∈ pulledUpStates)
    (after : t.st ∈ pulledUpStates) (dir : t.pinDir = s.pinDir) (pull : t.pinPull = s.pinPull)
    (out : t.pinOut = s.pinOut) : PinsAgree t :=
  have released := pins.released (List.mem_cons_of_mem _ before)
  .of_pulledUp after (dir.trans released.1) (pull.trans (pins.pulledUp before)) (out.trans released.2)

/-- The pins of each state: ARM and START_HI drive High, START_LO drives Low, RELEASE releases with the pull-up,
and every other rule keeps the pin-control registers. -/
theorem RuleEffect.keeps_pins {s t : State} {i : Instr} (effect : RuleEffect s i t) (code : s.st = i.code)
    (pins : PinsAgree s) : PinsAgree (s.endCycle t) := by
  have pull := pins.pull
  cases effect with
  | arm | startHi => constructor <;> simp [pull]
  | startLo =>
    have driven := pins.high (by simp [code, Instr.code])
    constructor <;> simp [pull, driven]
  | release => exact .of_pulledUp (by simp) rfl rfl (pins.low code).2
  | waitEnds pair =>
    cases pair with
    | interWait | startWait =>
      have driven := pins.high (by simp [code, Instr.code])
      constructor <;> simp [pull, driven, Instr.code]
    | respWait | bitWait =>
      exact pins.stays_pulledUp (by simp [code, Instr.code]) (by simp [Instr.code]) rfl rfl rfl
  | stayTimesOut busy =>
    obtain rfl | rfl := busy <;>
      exact pins.stays_pulledUp (by simp [code, Instr.code]) (by simp [State.deliver_eq]) rfl rfl rfl
  | absent | present | waitHiEnds | waitLoEnds | sampleData | sampleChk | sampleLast | check =>
    exact pins.stays_pulledUp (by simp [code, Instr.code]) (by simp [State.deliver_eq]) rfl rfl rfl
  | report =>
    have released := pins.released (by simp [code, Instr.code])
    constructor <;> simp [pull, released]
  | waitCounts | stayCounts | cancelled =>
    exact ⟨pull, pins.released, pins.pulledUp, pins.high, pins.low⟩
  | reservedF => constructor <;> simp [pull]

/-! ### The invariant: counters -/

/-- A load that fits starts a wait within its range (R44). -/
theorem State.loadWait_range {s : State} {n : Nat} (fits : s.params.WaitFits n) :
    1 ≤ (s.loadWait n).wcnt.toNat ∧ (s.loadWait n).wcnt.toNat ≤ n * s.params.unitCycles := by
  rw [s.loadWait_wcnt_toNat fits]
  exact ⟨fits.1, le_rfl⟩

/-- A stay-sample on which the guard does not fire leaves `bwc` below the guard (R135). -/
theorem State.bwc_succ_lt_guard {s : State} (e : s.HasEngine) (below : ¬ s.GuardFires)
    (guard : 0 < s.params.busyGuard) : (s.bwc + 1).toNat < s.params.busyGuard := by
  obtain ⟨⟨-, -, -, -, -, -, -, fits, -⟩, -⟩ := e
  have next : s.bwc.toNat + 1 < s.params.busyGuard := Nat.lt_of_not_le fun h => below ⟨guard, h⟩
  rw [BitVec.toNat_add]
  exact (Nat.mod_le _ _).trans_lt next

/-- The counters of each state: a wait starts with its load and counts down to 1, `bidx` counts the samples, and
`bwc` the stay-samples below the guard. -/
theorem RuleEffect.keeps_counters {s t : State} {i : Instr} (effect : RuleEffect s i t) (code : s.st = i.code)
    (e : s.HasEngine) (counters : CountersAgree s) : CountersAgree (s.endCycle t) := by
  have bits := counters.bits
  have legal := e.1
  obtain ⟨-, -, -, -, -, -, -, -, -, interFits, startFits, respFits, bitFits⟩ := legal
  cases effect with
  | arm => constructor <;> simp [waitConstant, State.loadWait_range interFits, bits]
  | startHi => constructor <;> simp [waitConstant, State.loadWait_range startFits, bits]
  | release => constructor <;> simp [waitConstant, State.loadWait_range respFits, bits]
  | waitLoEnds =>
    have left := counters.bitsLeft (by simp [code, Instr.code])
    constructor <;> simp [waitConstant, State.loadWait_range bitFits, bits, left]
  | waitCounts pair more =>
    refine { counters with wait := fun n hn => ?_ }
    have range := counters.wait n hn
    show 1 ≤ (s.wcnt - 1).toNat ∧ (s.wcnt - 1).toNat ≤ n * s.params.unitCycles
    have pred : (s.wcnt - 1).toNat = s.wcnt.toNat - 1 := by bv_omega
    omega
  | waitEnds pair =>
    cases pair with
    | bitWait =>
      have left := counters.bitsLeft (by simp [code, Instr.code])
      constructor <;> simp [waitConstant, Instr.code, bits, left]
    | _ => constructor <;> simp [waitConstant, Instr.code, bits]
  | stayCounts busy below =>
    exact { counters with guarded := fun _ guard => State.bwc_succ_lt_guard e below guard }
  | present => constructor <;> simp [waitConstant]
  | waitHiEnds =>
    have left := counters.bitsLeft (by simp [code, Instr.code])
    constructor <;> simp [waitConstant, bits, left]
  | sampleData field => constructor <;> simp [waitConstant] <;> omega
  | sampleChk field more =>
    have left := counters.bitsLeft (by simp [code, Instr.code])
    have notLast : s.bidx.toNat ≠ 39 := by bv_omega
    constructor <;> simp [waitConstant] <;> omega
  | sampleLast last => constructor <;> simp [waitConstant, last]
  | cancelled => exact { counters with }
  | startLo | absent | stayTimesOut | check | report | reservedF =>
    constructor <;> simp [waitConstant, State.deliver_eq, bits]

/-! ### The invariant: the report and its frame -/

/-- The two halves of the data field are the whole field (R89). -/
theorem humOf_append_tempOf (data : Word) : humOf data ++ tempOf data = data := by
  unfold humOf tempOf
  rw [BitVec.extractLsb'_append_extractLsb'_eq_extractLsb' (by rfl)]
  simp

/-- The verdict is 1 exactly for a frame whose checksum is the computed one (R160). -/
theorem checksumOk_eq_one {data : Word} {chk : Byte} : checksumOk data chk = 1 ↔ byteSum data = chk := by
  unfold checksumOk
  exact bit_ite_eq_one

/-- The report of CHECK agrees with its outcome: ChecksumMismatch under the strict setting for a frame that did
not match, else Present (R160, R163). -/
theorem reportAgrees_check (s : State) :
    ReportAgrees (s.deliver (.ofFrame s.params.strictChecksum s.data s.chk)) := by
  have verdict : byteSum s.data = byteSum (humOf s.data ++ tempOf s.data) ∧
      (checksumOk s.data s.chk = 1 ↔ byteSum s.data = s.chk) :=
    ⟨by rw [humOf_append_tempOf], checksumOk_eq_one⟩
  by_cases bad : s.params.strictChecksum = 1 ∧ checksumOk s.data s.chk = 0
  · have status : (s.deliver (.ofFrame s.params.strictChecksum s.data s.chk)).rptStatus = 0b10#2 :=
      congrArg Status.code (if_pos bad)
    exact ⟨by simp [status], fun _ => verdict, by simp [status], fun _ => bad, by simp [status]⟩
  · have status : (s.deliver (.ofFrame s.params.strictChecksum s.data s.chk)).rptStatus = 0b01#2 :=
      congrArg Status.code (if_neg bad)
    have matched : s.params.strictChecksum = 1 → checksumOk s.data s.chk = 1 :=
      fun strict => by_contra fun no => bad ⟨strict, bit_ne_one.mp no⟩
    exact ⟨by simp [status], fun _ => verdict, fun _ => matched, by simp [status], by simp [status]⟩

/-- The report registers agree with their outcome: a new report does, and every other branch keeps the old
one. -/
theorem RuleEffect.keeps_report {s t : State} {i : Instr} (effect : RuleEffect s i t)
    (report : ReportAgrees s) : ReportAgrees (s.endCycle t) := by
  cases effect with
  | check =>
    obtain ⟨zero, verdict, present, mismatch, timeout⟩ := reportAgrees_check s
    exact ⟨zero, verdict, present, mismatch, timeout⟩
  | absent => constructor <;> simp [State.deliver_eq, Report.zero, Status.code]
  | stayTimesOut busy fires => constructor <;> simp [State.deliver_eq, Report.zero, Status.code, fires.1]
  | _ => exact ⟨report.zero, report.verdict, report.present, report.mismatch, report.timeout⟩

/-- In REPORT the fields of an assembled frame are those of the accumulators: only CHECK enters REPORT with such
an outcome, and it copies them after 40 bits (R162). -/
theorem RuleEffect.keeps_frame {s t : State} {i : Instr} (effect : RuleEffect s i t) (code : s.st = i.code)
    (counters : CountersAgree s) : SameFrame (s.endCycle t) := by
  refine ⟨fun inReport assembled => ?_⟩
  cases effect with
  | check => exact ⟨rfl, rfl, rfl, rfl, rfl, counters.bitsDone code⟩
  | absent | stayTimesOut => simp [State.deliver_eq, Report.zero, Status.code] at assembled
  | waitEnds pair | waitCounts pair => cases pair <;> simp [code, Instr.code] at inReport
  | stayCounts busy => obtain rfl | rfl := busy <;> simp [code, Instr.code] at inReport
  | _ => simp [code, Instr.code] at inReport

/-! ### The invariant: every edge -/

/-- From a state other than CANCELLED and the reserved code no rule enters either of them. -/
theorem RuleEffect.keeps_running {s t : State} {i : Instr} (effect : RuleEffect s i t) (code : s.st = i.code)
    (running : s.st ≠ 0xE#4 ∧ s.st ≠ 0xF#4) : t.st ≠ 0xE#4 ∧ t.st ≠ 0xF#4 := by
  cases effect with
  | waitCounts | stayCounts | cancelled => exact running
  | waitEnds pair => cases pair <;> simp [Instr.code]
  | reservedF => exact absurd code running.2
  | _ => simp [State.deliver_eq]

/-- An edge that applies the rule of the state keeps the invariant. -/
theorem EngineInv.rule {s t : State} (inv : EngineInv s) (quiet : s.cx = 0) (effect : RuleEffect s s.fetch t)
    (e : (s.endCycle t).HasEngine) : EngineInv (s.endCycle t) := by
  have code := s.st_eq_code
  have down : s.cancelQ ≠ 1 := by
    rw [(s.cx_eq_zero.mp quiet).1]
    decide
  obtain ⟨notCancelled, notReserved⟩ :=
    effect.keeps_running code ⟨fun st => down (inv.latch.mpr st), inv.notReserved⟩
  exact {
    engine := e
    notReserved := notReserved
    latch := by simp [quiet, notCancelled]
    pins := effect.keeps_pins code inv.pins
    counters := effect.keeps_counters code inv.engine inv.counters
    report := effect.keeps_report inv.report
    frame := effect.keeps_frame code inv.counters }

/-- A cancellation keeps the invariant: the latch comes up with CANCELLED, and the clauses about a running state
say nothing there (60_exceptions.md R204). -/
theorem EngineInv.cancel {s : State} (inv : EngineInv s) (raised : s.cx = 1)
    (e : (s.endCycle s.raiseCancel).HasEngine) : EngineInv (s.endCycle s.raiseCancel) where
  engine := e
  notReserved := by simp [State.raiseCancel, Instr.code]
  latch := by simp [raised, State.raiseCancel, Instr.code]
  pins := by constructor <;> simp [State.raiseCancel, Instr.code, inv.pins.pull]
  counters := by constructor <;> simp [State.raiseCancel, Instr.code, waitConstant, inv.counters.bits]
  report :=
    have report := inv.report
    ⟨report.zero, report.verdict, report.present, report.mismatch, report.timeout⟩
  frame := by constructor; simp [State.raiseCancel, Instr.code]

/-- Settles O41: a reset edge goes to the reset state, and a cancellation and a rule keep each part. -/
theorem stepKeepsEngineInv : Obligations.StepKeepsEngineInv := by
  intro s t inv h
  have e : t.HasEngine := (step_engine h).1
  obtain ⟨-, ⟨-, rfl⟩ | ⟨-, raised, rfl⟩ | ⟨-, quiet, r, rule, -, rfl⟩⟩ := step_cases h
  · exact resetHasEngineInv s.params s.stimulus.tail (s.tick + 1) inv.engine.1
  · exact inv.cancel raised e
  · exact inv.rule quiet (exec_effect rule) e

end Sys2Proof.Machine

/-! SUPPORT. The proofs about the frame (20_memory.md): runs of quiet cycles and what they show, the waits and
busy-waits of 30_encoding.md R95 and R96 as legs of such a run, and the 40 bits of R63 from the line through the
accumulators to the report. -/

namespace Sys2Proof.Machine

/-! ### Runs and what they show, cycle by cycle -/

/-- A run of one cycle more is a run and a step. -/
theorem runFor_snoc {c : Nat} {s t : State} (h : runFor c s = .next t) : runFor (c + 1) s = step t := by
  induction c generalizing s with
  | zero =>
    obtain rfl := Host.Outcome.next.inj h
    rw [runFor]
    split <;> simp only [runFor, *]
  | succ c ih =>
    obtain ⟨u, hu, run⟩ := runFor_succ h
    rw [runFor, hu, ← ih run]

/-- What a step answers is observed from the next cycle on. -/
theorem observe_succ {c : Nat} {s t : State} (h : step s = .next t) :
    observe (c + 1) s = s.outputs :: observe c t := by
  rw [observe, h]

/-- In the cycle after a run the outputs of its last state are observed. -/
theorem observe_snoc {c : Nat} {s t : State} (h : runFor c s = .next t) :
    observe (c + 1) s = observe c s ++ [t.outputs] := by
  induction c generalizing s with
  | zero =>
    obtain rfl := Host.Outcome.next.inj h
    rw [observe, observe]
    split <;> rfl
  | succ c ih =>
    obtain ⟨u, hu, run⟩ := runFor_succ h
    rw [observe_succ hu, ih run, observe_succ hu, List.cons_append]

/-- The trace of a run ends with the instruction of its last state. -/
theorem trace_snoc {c : Nat} {s t : State} (h : runFor c s = .next t) :
    trace (c + 1) s = trace c s ++ [t.fetch] := by
  rw [trace, observe_snoc h, List.map_append]
  rfl

/-! ### Quiet cycles -/

/-- In a quiet cycle nothing cancels. -/
theorem Quiet.cx {s : State} {n : Nat} (quiet : Quiet s (n + 1)) : s.cx = 0 :=
  s.cx_eq_zero.mpr ⟨quiet.1, (quiet.2 0 n.succ_pos).2⟩

/-- After its first cycle a quiet run goes on quietly. -/
theorem Quiet.later {s t : State} {n : Nat} (quiet : Quiet s (n + 1)) (h : step s = .next t) : Quiet t n := by
  refine ⟨(step_cancelQ (quiet.2 0 n.succ_pos).1 h).trans quiet.cx, fun j hj => ?_⟩
  rw [step_portsAt h]
  exact quiet.2 (j + 1) (by omega)

/-- The instructions whose rule performs `PinSample()` (10_state.md R35). -/
abbrev samplingInstrs : List Instr := [.presence, .waitHi, .waitLo, .sample]

/-- What a predicate of the outputs counts over quiet cycles is counted over the trace, if in a quiet cycle it is
a predicate of the instruction. -/
theorem countP_observe {P : Outputs → Bool} {Q : Instr → Bool}
    (agree : ∀ s : State, Quiet s 1 → P s.outputs = Q s.fetch) :
    ∀ (n : Nat) (s : State), Quiet s n → (observe n s).countP P = (trace n s).countP Q := by
  intro n
  induction n with
  | zero => intros; rfl
  | succ n ih =>
    intro s quiet
    have first : P s.outputs = Q (decodeState s.outputs.dbgStateO) :=
      agree s ⟨quiet.1, fun j hj => quiet.2 j (by omega)⟩
    rw [trace, observe, List.map_cons, List.countP_cons, List.countP_cons, first]
    congr 1
    split
    · next t h => exact ih t (quiet.later h)
    · rfl
    · rfl

/-- In quiet cycles the pin reads are the sampling instructions of the trace (R35, 41_frame_assembly.md R139). -/
theorem readCount_eq {n : Nat} {s : State} (quiet : Quiet s n) :
    readCount n s = (trace n s).countP (· ∈ samplingInstrs) := by
  refine countP_observe (fun s quiet => ?_) n s quiet
  obtain ⟨rst, cancel⟩ := quiet.2 0 Nat.one_pos
  obtain ⟨reads, -, -⟩ := combinationalOutputs s
  have read : s.outputs.pinRdO = 1 ↔ s.fetch ∈ samplingInstrs := by
    rw [reads]
    exact ⟨fun ⟨_, _, _, h⟩ => h, fun h => ⟨rst, quiet.1, cancel, h⟩⟩
  exact decide_eq_decide.mpr read

/-- In quiet cycles the reports are the REPORT states of the trace (R35, 42_checksum_report.md R169). -/
theorem reportCount_eq {n : Nat} {s : State} (quiet : Quiet s n) :
    reportCount n s = (trace n s).countP (· = .report) := by
  refine countP_observe (fun s quiet => ?_) n s quiet
  have rst := (quiet.2 0 Nat.one_pos).1
  obtain ⟨-, reports, -⟩ := combinationalOutputs s
  have valid : s.outputs.rptValidO = 1 ↔ s.fetch = .report := by
    rw [reports]
    exact ⟨fun ⟨_, h⟩ => h, fun h => ⟨rst, h⟩⟩
  exact decide_eq_decide.mpr valid

/-! ### Legs of a quiet run -/

/-- `t` holds what `r` holds in every field but the synchroniser and the input side: the chain, the placed inputs
and the tick, which every edge moves on whatever the rule. -/
def SameRegisters (t r : State) : Prop :=
  ∃ chain placed tick, t = { r with sync := chain, stimulus := placed, tick := tick }

/-- An edge without cancellation leaves the registers that the rule wrote. -/
theorem SameRegisters.endCycle {i : Instr} {s t r : State} (rule : exec i s = .next t) (latch : s.cancelQ = 0)
    (quiet : s.cx = 0) (same : SameRegisters t r) : SameRegisters (s.endCycle t) r := by
  obtain ⟨u, hu, kept⟩ := exec_next i s
  obtain rfl : t = u := Host.Outcome.next.inj (rule.symm.trans hu)
  obtain ⟨chain, placed, tick, rfl⟩ := same
  have down : s.cx = r.cancelQ := (quiet.trans latch.symm).trans kept.cancelQ.symm
  exact ⟨s.shiftedSync, s.stimulus.tail, s.tick + 1, by rw [State.endCycle, down]⟩

/-- After `c` cycles from `s`, all of them quiet, the states `seen` have been shown and the engine is in `t`;
`line` and `ports` say that `t` sees the levels that `s` sees `c` cycles later. -/
structure Reached (s : State) (c : Nat) (seen : List Instr) (t : State) : Prop where
  run : runFor c s = .next t
  shown : trace c s = seen
  engine : t.HasEngine
  params : t.params = s.params
  latch : t.cancelQ = 0
  line : ∀ j, lineAt t j = lineAt s (c + j)
  ports : ∀ j, t.portsAt j = s.portsAt (c + j)

/-- After `c` quiet cycles from `s` that show `seen`, the engine has the registers of `r`. -/
def ReachedAs (s : State) (c : Nat) (seen : List Instr) (r : State) : Prop :=
  ∃ t, Reached s c seen t ∧ SameRegisters t r

theorem ReachedAs.start {s : State} (e : s.HasEngine) (latch : s.cancelQ = 0) : ReachedAs s 0 [] s :=
  ⟨s, ⟨rfl, rfl, e, rfl, latch, fun j => by rw [Nat.zero_add], fun j => by rw [Nat.zero_add]⟩, _, _, _, rfl⟩

theorem ReachedAs.params {s r : State} {c : Nat} {seen : List Instr} (h : ReachedAs s c seen r) :
    r.params = s.params := by
  obtain ⟨_, reached, chain, placed, tick, rfl⟩ := h
  exact reached.params

/-- A run has an engine, so its parameters are legal (00_scope.md R7). -/
theorem ReachedAs.legal {s r : State} {c : Nat} {seen : List Instr} (h : ReachedAs s c seen r) :
    s.params.Legal := by
  obtain ⟨_, reached, -⟩ := h
  exact reached.params ▸ reached.engine.1

section Legs

variable {s r r' : State} {n c : Nat} {seen : List Instr}

/-- In a quiet run neither reset nor cancellation is at the ports. -/
theorem Reached.inputs {t : State} (h : Reached s c seen t) (quiet : Quiet s n) (lt : c < n) :
    t.ports.rst = 0 ∧ t.ports.cancel = 0 := by
  rw [State.ports, h.ports]
  exact quiet.2 c lt

/-- In a quiet run REPORT delivers (R35). -/
theorem Reached.rptValid {t : State} (h : Reached s c seen t) (quiet : Quiet s n) (lt : c < n)
    (code : t.st = 0xD#4) : t.outputs.rptValidO = 1 := by
  obtain ⟨-, reports, -⟩ := combinationalOutputs t
  exact reports.mpr ⟨(h.inputs quiet lt).1, (decodeState_eq_iff _ .report).mpr code⟩

/-- One more quiet cycle applies one more rule. -/
theorem Reached.cycle {t u : State} (h : Reached s c seen t) (quiet : Quiet s n) (lt : c < n)
    (rule : exec t.fetch t = .next u) :
    t.cx = 0 ∧ Reached s (c + 1) (seen ++ [t.fetch]) (t.endCycle u) := by
  obtain ⟨rst, cancel⟩ := h.inputs quiet lt
  have cx : t.cx = 0 := t.cx_eq_zero.mpr ⟨h.latch, cancel⟩
  have next : step t = .next (t.endCycle u) := step_rule h.engine rst cx rule
  obtain ⟨engine, params⟩ := step_engine next
  exact ⟨cx, {
    run := (runFor_snoc h.run).trans next
    shown := by rw [trace_snoc h.run, h.shown]
    engine := engine
    params := params.trans h.params
    latch := (step_cancelQ rst next).trans cx
    line := fun j => by rw [lineAt_step rst next, h.line, Nat.add_right_comm, Nat.add_assoc]
    ports := fun j => by rw [step_portsAt next, h.ports, Nat.add_right_comm, Nat.add_assoc] }⟩

/-- A leg of one cycle: the rule of `i`, at the registers of `r` and the line of the cycle, writes those of
`r'`. -/
theorem ReachedAs.cycle {i : Instr} (h : ReachedAs s c seen r) (quiet : Quiet s n) (lt : c < n)
    (code : r.st = i.code)
    (rule : ∀ t, SameRegisters t r → t.lineS = lineAt s c → ∃ u, exec i t = .next u ∧ SameRegisters u r') :
    ReachedAs s (c + 1) (seen ++ [i]) r' := by
  obtain ⟨t, reached, same⟩ := h
  obtain ⟨u, hu, same'⟩ := rule t same ((lineAt_zero reached.engine).symm.trans (reached.line 0))
  obtain rfl : t.fetch = i := by
    obtain ⟨chain, placed, tick, rfl⟩ := same
    exact (decodeState_eq_iff _ _).mpr code
  obtain ⟨cx, next⟩ := reached.cycle quiet lt hu
  exact ⟨_, next, same'.endCycle hu reached.latch cx⟩

/-! ### Rules that do not sample -/

/-- A rule that does not sample writes the same registers whatever the synchroniser and the inputs are. -/
theorem exec_sameRegisters {i : Instr} {t : State} (blind : i ∉ samplingInstrs) (rule : exec i r = .next r')
    (same : SameRegisters t r) : ∃ u, exec i t = .next u ∧ SameRegisters u r' := by
  obtain ⟨chain, placed, tick, rfl⟩ := same
  cases i with
  | presence | waitHi | waitLo | sample => exact absurd (by decide) blind
  | interWait | startWait | respWait | bitWait =>
    obtain rfl := Host.Outcome.next.inj rule
    refine ⟨_, rfl, chain, placed, tick, ?_⟩
    unfold State.countdown
    by_cases low : r.wcnt.toNat ≤ 1
    · rw [if_pos low, if_pos low]
      rfl
    · rw [if_neg low, if_neg low]
      rfl
  | arm | startHi | startLo | release | check | report | cancelled | reservedF =>
    obtain rfl := Host.Outcome.next.inj rule
    exact ⟨_, rfl, chain, placed, tick, rfl⟩

/-- A leg of one cycle of a state that does not sample. -/
theorem ReachedAs.rule {i : Instr} (h : ReachedAs s c seen r) (quiet : Quiet s n) (lt : c < n)
    (code : r.st = i.code) (blind : i ∉ samplingInstrs) (rule : exec i r = .next r') :
    ReachedAs s (c + 1) (seen ++ [i]) r' :=
  h.cycle quiet lt code fun _ same _ => exec_sameRegisters blind rule same

/-! ### Waits (40_start_signal.md R115) -/

theorem exec_wait {wait next : Instr} (pair : WaitPair wait next) (s : State) :
    exec wait s = .next (s.countdown next) := by
  cases pair <;> rfl

theorem WaitPair.blind {wait next : Instr} (pair : WaitPair wait next) : wait ∉ samplingInstrs := by
  cases pair <;> decide

/-- A wait shows its state once for each count that is left, and then its successor is due. -/
theorem ReachedAs.wait {wait next : Instr} (pair : WaitPair wait next) (quiet : Quiet s n) {k : Nat}
    (h : ReachedAs s c seen r) (code : r.st = wait.code) (load : r.wcnt.toNat = k + 1) (le : c + (k + 1) ≤ n) :
    ReachedAs s (c + (k + 1)) (seen ++ List.replicate (k + 1) wait) { r with wcnt := 0, st := next.code } := by
  have first := h.rule quiet (by omega) code pair.blind (exec_wait pair r)
  induction k generalizing c seen r with
  | zero =>
    obtain ⟨-, ends⟩ | ⟨more, -⟩ := r.countdown_cases next
    · exact ends ▸ first
    · omega
  | succ k ih =>
    obtain ⟨low, -⟩ | ⟨-, counts⟩ := r.countdown_cases next
    · omega
    · rw [counts] at first
      have left : (r.wcnt - 1).toNat = k + 1 := by bv_omega
      have rest := ih first code left (by omega) (first.rule quiet (by omega) code pair.blind (exec_wait pair _))
      rwa [List.append_assoc, List.singleton_append, ← List.replicate_succ, Nat.add_assoc,
        Nat.add_comm 1] at rest

/-- A wait of `m` units that fits the counter, from its load on. -/
theorem ReachedAs.waitUnits {wait next : Instr} (pair : WaitPair wait next) (quiet : Quiet s n) {m : Nat}
    (h : ReachedAs s c seen r) (code : r.st = wait.code) (fits : s.params.WaitFits m)
    (load : r.wcnt = (s.loadWait m).wcnt) (le : c + m * s.params.unitCycles ≤ n) :
    ReachedAs s (c + m * s.params.unitCycles) (seen ++ List.replicate (m * s.params.unitCycles) wait)
      { r with wcnt := 0, st := next.code } := by
  have count : r.wcnt.toNat = m * s.params.unitCycles := by rw [load, s.loadWait_wcnt_toNat fits]
  obtain ⟨k, hk⟩ : ∃ k, m * s.params.unitCycles = k + 1 := Nat.exists_eq_add_of_le' fits.1
  rw [hk] at count le ⊢
  exact h.wait pair quiet code count le

/-! ### Busy-waits (41_frame_assembly.md R131, R132, R135) -/

/-- The level at which a busy-wait stays. -/
inductive StaysAt : Instr → Bit → Prop
  | waitHi : StaysAt .waitHi 1
  | waitLo : StaysAt .waitLo 0

theorem exec_stay {busy : Instr} {v : Bit} (stays : StaysAt busy v) {s : State} (level : s.lineS = v) :
    exec busy s = .next s.busyStay := by
  cases stays with
  | waitHi =>
    show execWaitHi s = _
    exact if_pos level
  | waitLo =>
    show execWaitLo s = _
    exact if_pos level

theorem exec_waitHi_low {s : State} (low : s.lineS = 0) :
    exec .waitHi s = .next ((s.setBwc 0).goTo .waitLo) := by
  show execWaitHi s = _
  exact if_neg (bit_ne_one.mpr low)

theorem exec_presence_low {s : State} (low : s.lineS = 0) :
    exec .presence s = .next (s.clearFrame.goTo .waitHi) := by
  show execPresence s = _
  exact if_neg (bit_ne_one.mpr low)

/-- While the line is at the stay level and the guard is not reached, a busy-wait counts. -/
theorem ReachedAs.stay {busy : Instr} {v : Bit} (stays : StaysAt busy v) (quiet : Quiet s n) {k : Nat}
    (h : ReachedAs s c seen r) (code : r.st = busy.code) (level : ∀ j < k, lineAt s (c + j) = v)
    (below : s.params.busyGuard = 0 ∨ r.bwc.toNat + k < s.params.busyGuard) (le : c + k ≤ n) :
    ReachedAs s (c + k) (seen ++ List.replicate k busy) { r with bwc := r.bwc + BitVec.ofNat 32 k } := by
  induction k generalizing c seen r with
  | zero => simpa using h
  | succ k ih =>
    have first : ReachedAs s (c + 1) (seen ++ [busy]) { r with bwc := r.bwc + 1 } := by
      refine h.cycle quiet (by omega) code ?_
      rintro _ ⟨chain, placed, tick, rfl⟩ line
      refine ⟨_, exec_stay stays (line.trans (level 0 k.succ_pos)), ?_⟩
      obtain ⟨⟨guard, reached⟩, -⟩ | ⟨-, counts⟩ := State.busyStay_cases
        { r with sync := chain, stimulus := placed, tick := tick }
      · change 0 < r.params.busyGuard at guard
        change r.params.busyGuard ≤ r.bwc.toNat + 1 at reached
        rw [h.params] at guard reached
        omega
      · exact ⟨chain, placed, tick, counts⟩
    have later : ∀ j < k, lineAt s (c + 1 + j) = v := fun j hj => by
      rw [Nat.add_right_comm]
      exact level (j + 1) (by omega)
    have counted : s.params.busyGuard = 0 ∨ (r.bwc + 1).toNat + k < s.params.busyGuard := by
      have bound : (r.bwc + 1).toNat ≤ r.bwc.toNat + 1 := by
        rw [BitVec.toNat_add]
        exact Nat.mod_le _ _
      omega
    have rest := ih first code later counted (by omega)
    have sum : r.bwc + 1 + BitVec.ofNat 32 k = r.bwc + BitVec.ofNat 32 (k + 1) := by
      rw [Nat.add_comm k, BitVec.ofNat_add, BitVec.add_assoc]
      rfl
    rwa [List.append_assoc, List.singleton_append, ← List.replicate_succ, Nat.add_assoc, Nat.add_comm 1,
      sum] at rest

/-- A busy-wait of `m` cycles: it stays for all but the last, and leaves by the level of the last. -/
theorem ReachedAs.busyWait {busy : Instr} {v : Bit} (stays : StaysAt busy v) (quiet : Quiet s n) {m : Nat}
    (h : ReachedAs s c seen r) (code : r.st = busy.code) (clear : r.bwc = 0) (pos : 1 ≤ m)
    (guard : s.params.busyGuard = 0 ∨ m ≤ s.params.busyGuard) (level : ∀ j < m - 1, lineAt s (c + j) = v)
    (exit : ∀ t, (∃ x, SameRegisters t { r with bwc := x }) → t.lineS = lineAt s (c + (m - 1)) →
      ∃ u, exec busy t = .next u ∧ SameRegisters u r')
    (le : c + m ≤ n) : ReachedAs s (c + m) (seen ++ List.replicate m busy) r' := by
  obtain ⟨k, rfl⟩ : ∃ k, m = k + 1 := Nat.exists_eq_add_of_le' pos
  have below : s.params.busyGuard = 0 ∨ r.bwc.toNat + k < s.params.busyGuard := by
    have zero : r.bwc.toNat = 0 := by
      rw [clear]
      rfl
    omega
  have last := (h.stay stays quiet code level below (by omega)).cycle quiet (by omega) code
    fun t same line => exit t ⟨_, same⟩ line
  rwa [List.append_assoc, ← List.replicate_succ'] at last

/-! ### One bit (30_encoding.md R95, 41_frame_assembly.md R134, R142) -/

/-- What one assembled bit makes of the registers: the bit is in the field that `bidx` selects, and the next bit
or CHECK is due. -/
def State.afterBit (s : State) (b : Bit) : State :=
  { s with
    st := if s.bidx.toNat = 39 then 0xC#4 else 0x8#4
    wcnt := 0
    bwc := 0
    bidx := s.bidx + 1
    data := if s.bidx.toNat < 32 then shiftIn s.data b else s.data
    chk := if s.bidx.toNat < 32 then s.chk else shiftIn s.chk b }

theorem exec_sample (s : State) : exec .sample s = .next { s.afterBit s.lineS with wcnt := s.wcnt } := by
  have last : s.bidx = 39 ↔ s.bidx.toNat = 39 := BitVec.toNat_inj.symm
  show execSample s = _
  unfold execSample State.accumulate State.afterBit
  by_cases field : s.bidx.toNat < 32
  · have more : s.bidx.toNat ≠ 39 := by omega
    simp only [field, last, more]
    rfl
  · by_cases done : s.bidx.toNat = 39 <;> simp only [field, last, done] <;> rfl

/-- A pulse on the line, from WAIT_HI to SAMPLE: each busy-wait ends with its pulse, and the line is sampled after
the settle delay. -/
theorem ReachedAs.pulse {b : Pulse} (quiet : Quiet s n) (h : ReachedAs s c seen r) (code : r.st = 0x8#4)
    (clear : r.bwc = 0) (pulse : PulseAt s c b) (le : c + b.cycles s.params ≤ n) :
    ReachedAs s (c + b.cycles s.params) (seen ++ traceOfPulse s.params b) (r.afterBit b.value) := by
  obtain ⟨hi, lo, guard, highs, fall, lows, rise, value⟩ := pulse
  obtain ⟨-, -, -, -, -, -, -, -, -, -, -, -, fits⟩ := h.legal
  have load : (r.loadWait r.params.tBit).wcnt = (s.loadWait s.params.tBit).wcnt := by
    simp only [State.loadWait_eq, h.params]
  rw [Pulse.cycles] at le ⊢
  have fallen : ReachedAs s (c + b.hi) (seen ++ List.replicate b.hi .waitHi) { r with bwc := 0, st := 0x9#4 } := by
    refine h.busyWait .waitHi quiet code clear hi (by omega) highs ?_ (by omega)
    rintro _ ⟨x, chain, placed, tick, rfl⟩ line
    exact ⟨_, exec_waitHi_low (line.trans fall), chain, placed, tick, rfl⟩
  have risen : ReachedAs s (c + b.hi + b.lo) (seen ++ List.replicate b.hi .waitHi ++ List.replicate b.lo .waitLo)
      { r with bwc := 0, wcnt := (r.loadWait r.params.tBit).wcnt, st := 0xA#4 } := by
    refine fallen.busyWait .waitLo quiet rfl rfl lo (by omega) lows ?_ (by omega)
    rintro _ ⟨x, chain, placed, tick, rfl⟩ line
    exact ⟨_, exec_waitLo_high (line.trans rise), chain, placed, tick, rfl⟩
  have settled := risen.waitUnits .bitWait quiet rfl fits load (by omega)
  have sampled := settled.cycle (i := .sample) (r' := r.afterBit b.value) quiet (by omega) rfl ?_
  · simpa only [traceOfPulse, List.append_assoc, Nat.add_assoc] using sampled
  · rintro _ ⟨chain, placed, tick, rfl⟩ line
    refine ⟨_, exec_sample _, ?_⟩
    rw [line, value]
    exact ⟨chain, placed, tick, rfl⟩

/-! ### From ARM to PRESENCE, and around the frame (30_encoding.md R95, R96) -/

/-- The registers in the PRESENCE cycle of a poller cycle that began in `s`: the line released with the pull-up
on. -/
def State.atPresence (s : State) : State :=
  { s with pinDir := 0, pinPull := 0b01#2, pinOut := 0, wcnt := 0, st := 0x7#4 }

/-- From ARM the start signal and the response wait lead to PRESENCE, whatever the line does. -/
theorem ReachedAs.presence (quiet : Quiet s n) (e : s.HasEngine) (code : s.st = 0x0#4)
    (le : 4 + (s.params.tInter + s.params.tStart + s.params.tResp) * s.params.unitCycles ≤ n) :
    ReachedAs s (4 + (s.params.tInter + s.params.tStart + s.params.tResp) * s.params.unitCycles)
      (traceToPresence s.params).dropLast s.atPresence := by
  obtain ⟨-, -, -, -, -, -, -, -, -, interFits, startFits, respFits, -⟩ := e.1
  rw [Nat.add_mul, Nat.add_mul] at le ⊢
  have armed : ReachedAs s _ _
      { s with pinDir := 1, pinOut := 1, wcnt := (s.loadWait s.params.tInter).wcnt, st := 0x1#4 } :=
    (ReachedAs.start e quiet.1).rule (i := .arm) quiet (by omega) code (by decide) rfl
  have paused : ReachedAs s _ _ { s with pinDir := 1, pinOut := 1, wcnt := 0, st := 0x2#4 } :=
    armed.waitUnits .interWait quiet rfl interFits rfl (by omega)
  have raised : ReachedAs s _ _
      { s with pinDir := 1, pinOut := 1, wcnt := (s.loadWait s.params.tStart).wcnt, st := 0x3#4 } :=
    paused.rule (i := .startHi) quiet (by omega) rfl (by decide) rfl
  have held : ReachedAs s _ _ { s with pinDir := 1, pinOut := 1, wcnt := 0, st := 0x4#4 } :=
    raised.waitUnits .startWait quiet rfl startFits rfl (by omega)
  have driven : ReachedAs s _ _ { s with pinDir := 1, pinOut := 0, wcnt := 0, st := 0x5#4 } :=
    held.rule (i := .startLo) quiet (by omega) rfl (by decide) rfl
  have released : ReachedAs s _ _ { s with
      pinDir := 0, pinPull := 0b01#2, pinOut := 0, wcnt := (s.loadWait s.params.tResp).wcnt, st := 0x6#4 } :=
    driven.rule (i := .release) quiet (by omega) rfl (by decide) rfl
  have waited : ReachedAs s _ _ s.atPresence :=
    released.waitUnits .respWait quiet rfl respFits rfl (by omega)
  convert waited using 1
  · omega
  · rw [traceToPresence, List.dropLast_concat]
    simp only [List.append_assoc, List.nil_append, List.cons_append]

/-- The registers after these bits, one after the other. -/
def State.afterBits (s : State) (bits : List Bit) : State := bits.foldl State.afterBit s

/-- Between two bits of a frame: `bidx` counts them, and after the 40th CHECK is due. -/
structure BetweenBits (s : State) : Prop where
  clear : s.bwc = 0
  code : s.st = if s.bidx.toNat = 40 then 0xC#4 else 0x8#4

theorem State.afterBit_bidx {s : State} (more : s.bidx.toNat < 40) (b : Bit) :
    (s.afterBit b).bidx.toNat = s.bidx.toNat + 1 := by
  show (s.bidx + 1).toNat = _
  bv_omega

theorem BetweenBits.afterBit {s : State} (more : s.bidx.toNat < 40) (b : Bit) : BetweenBits (s.afterBit b) where
  clear := rfl
  code := by
    rw [State.afterBit_bidx more]
    simp only [State.afterBit, Nat.reduceEqDiff]

/-- Pulses on the line are assembled one after the other. -/
theorem ReachedAs.pulses (quiet : Quiet s n) {bs : List Pulse} (h : ReachedAs s c seen r) (between : BetweenBits r)
    (pulses : PulsesAt s c bs) (count : r.bidx.toNat + bs.length ≤ 40)
    (le : c + pulsesCycles s.params bs ≤ n) :
    ReachedAs s (c + pulsesCycles s.params bs) (seen ++ (bs.map (traceOfPulse s.params)).flatten)
      (r.afterBits (bs.map Pulse.value)) := by
  induction bs generalizing c seen r with
  | nil => simpa [pulsesCycles, State.afterBits] using h
  | cons b rest ih =>
    obtain ⟨first, others⟩ := pulses
    have cycles : pulsesCycles s.params (b :: rest) = b.cycles s.params + pulsesCycles s.params rest := rfl
    rw [List.length_cons] at count
    rw [cycles, ← Nat.add_assoc] at le ⊢
    have more : r.bidx.toNat < 40 := by omega
    have code : r.st = 0x8#4 := between.code.trans (if_neg (by omega))
    have assembled := h.pulse quiet code between.clear first (by omega)
    have tail := ih assembled (.afterBit more _) others (by rw [State.afterBit_bidx more]; omega) le
    rwa [List.append_assoc] at tail

end Legs

/-! ### The accumulators after a frame (20_memory.md R63, 41_frame_assembly.md R136) -/

/-- Below the top, bit `i` of a field is the bit shifted in `i` bits before the last. -/
theorem getLsbD_shiftIn {w : Nat} (acc : BitVec w) (b : Bit) (i : Nat) (lt : i < w) :
    (shiftIn acc b).getLsbD i = if i = 0 then b.getLsbD 0 else acc.getLsbD (i - 1) := by
  have apart : acc <<< 1 &&& b.zeroExtend w = 0#w := by
    refine BitVec.eq_of_getLsbD_eq fun j _ => ?_
    cases j <;> simp
  rw [shiftIn, BitVec.add_eq_or_of_and_eq_zero _ _ apart]
  cases i with
  | zero => simp [lt]
  | succ i => simp [lt, BitVec.getLsbD_eq_getElem (show i < w by omega)]

/-- Bits shifted into a field stand in it most significant first (R136). -/
theorem getLsbD_foldl_shiftIn {w : Nat} (acc : BitVec w) (bits : List Bit) (i : Nat) (lt : i < w)
    (h : i < bits.length) : (bits.foldl shiftIn acc).getLsbD i = bits[bits.length - 1 - i].getLsbD 0 := by
  induction bits using List.reverseRecOn generalizing i with
  | nil => exact absurd h (Nat.not_lt_zero i)
  | append_singleton bits b ih =>
    rw [List.foldl_concat, getLsbD_shiftIn _ _ _ lt]
    rw [List.length_append] at h
    cases i with
    | zero => simp
    | succ i =>
      simp only [List.length_append, List.length_singleton] at h ⊢
      rw [if_neg (by omega), Nat.add_sub_cancel, ih i (by omega) (by omega), List.getElem_append_left (by omega)]
      congr 2
      omega

/-- `bidx` counts the bits (10_state.md R25). -/
theorem State.afterBits_bidx {s : State} {bits : List Bit} (h : s.bidx.toNat + bits.length ≤ 40) :
    (s.afterBits bits).bidx.toNat = s.bidx.toNat + bits.length := by
  induction bits generalizing s with
  | nil => rfl
  | cons b rest ih =>
    rw [List.length_cons] at h ⊢
    have next := s.afterBit_bidx (by omega) b
    have tail := ih (s := s.afterBit b) (by omega)
    exact tail.trans (by omega)

/-- While `bidx` stays at most 32, the bits go into the data field. -/
theorem State.afterBits_data {s : State} {bits : List Bit} (h : s.bidx.toNat + bits.length ≤ 32) :
    (s.afterBits bits).data = bits.foldl shiftIn s.data ∧ (s.afterBits bits).chk = s.chk := by
  induction bits generalizing s with
  | nil => exact ⟨rfl, rfl⟩
  | cons b rest ih =>
    rw [List.length_cons] at h
    have field : s.bidx.toNat < 32 := by omega
    have next := s.afterBit_bidx (by omega) b
    obtain ⟨data, chk⟩ := ih (s := s.afterBit b) (by omega)
    have shifted : (s.afterBit b).data = shiftIn s.data b := if_pos field
    exact ⟨data.trans (by rw [List.foldl_cons, shifted]), chk.trans (if_pos field)⟩

/-- From 32 on, the bits go into the checksum field. -/
theorem State.afterBits_chk {s : State} {bits : List Bit} (from32 : 32 ≤ s.bidx.toNat)
    (h : s.bidx.toNat + bits.length ≤ 40) :
    (s.afterBits bits).data = s.data ∧ (s.afterBits bits).chk = bits.foldl shiftIn s.chk := by
  induction bits generalizing s with
  | nil => exact ⟨rfl, rfl⟩
  | cons b rest ih =>
    rw [List.length_cons] at h
    have field : ¬ s.bidx.toNat < 32 := by omega
    have next := s.afterBit_bidx (by omega) b
    obtain ⟨data, chk⟩ := ih (s := s.afterBit b) (by omega) (by omega)
    have shifted : (s.afterBit b).chk = shiftIn s.chk b := if_neg field
    exact ⟨data.trans (if_neg field), chk.trans (by rw [List.foldl_cons, shifted])⟩

theorem BetweenBits.afterBits {s : State} (between : BetweenBits s) {bits : List Bit}
    (h : s.bidx.toNat + bits.length ≤ 40) : BetweenBits (s.afterBits bits) := by
  induction bits generalizing s with
  | nil => exact between
  | cons b rest ih =>
    rw [List.length_cons] at h
    have more : s.bidx.toNat < 40 := by omega
    exact ih (.afterBit more b) (by rw [State.afterBit_bidx more]; omega)

/-- The 40 bits of a frame, `frame[39]` first, leave `frame[39:8]` in the data field and `frame[7:0]` in the
checksum field, whatever was in them (R63). -/
theorem State.afterBits_frame {s : State} {bits : List Bit} {frame : BitVec 40} (first : s.bidx = 0)
    (length : bits.length = 40)
    (carries : ∀ k (h : k < bits.length), bits[k] = BitVec.ofBool (frame.getLsbD (39 - k))) :
    (s.afterBits bits).data = frame.extractLsb' 8 32 ∧ (s.afterBits bits).chk = frame.extractLsb' 0 8 := by
  have zero : s.bidx.toNat = 0 := by rw [first]; rfl
  have split : s.afterBits bits = (s.afterBits (bits.take 32)).afterBits (bits.drop 32) := by
    unfold State.afterBits
    rw [← List.foldl_append, List.take_append_drop]
  have take : (bits.take 32).length = 32 := by rw [List.length_take, length]; rfl
  have drop : (bits.drop 32).length = 8 := by rw [List.length_drop, length]
  have at32 := State.afterBits_bidx (s := s) (bits := bits.take 32) (by omega)
  obtain ⟨data, -⟩ := State.afterBits_data (s := s) (bits := bits.take 32) (by omega)
  obtain ⟨data', chk⟩ :=
    State.afterBits_chk (s := s.afterBits (bits.take 32)) (bits := bits.drop 32) (by omega) (by omega)
  rw [split]
  refine ⟨BitVec.eq_of_getLsbD_eq fun i lt => ?_, BitVec.eq_of_getLsbD_eq fun i lt => ?_⟩
  · rw [data', data, getLsbD_foldl_shiftIn _ _ _ lt (by omega), List.getElem_take, carries,
      BitVec.getLsbD_extractLsb']
    simp [lt, take, show 39 - (31 - i) = 8 + i by omega]
  · rw [chk, getLsbD_foldl_shiftIn _ _ _ lt (by omega), List.getElem_drop, carries, BitVec.getLsbD_extractLsb']
    simp [lt, drop, show 39 - (32 + (7 - i)) = i by omega]

/-! ### The poller cycle of a frame -/

/-- What a frame's POLL_CYCLE counts, part by part (30_encoding.md R96). -/
theorem countP_tracePollCycle (p : Params) (bs : List Pulse) (P : Instr → Bool) :
    (tracePollCycle p (some bs)).countP P = (traceToPresence p).countP P +
      (bs.map fun b => (traceOfPulse p b).countP P).sum + [Instr.check, .report].countP P := by
  rw [tracePollCycle, List.countP_append, List.countP_append, List.countP_flatten, List.map_map]
  rfl

/-- The pin reads of a frame's POLL_CYCLE: one in PRESENCE, and in each bit one a busy-wait cycle and one in
SAMPLE (41_frame_assembly.md R139). -/
theorem countP_sampling_tracePollCycle (p : Params) (bs : List Pulse) :
    (tracePollCycle p (some bs)).countP (· ∈ samplingInstrs) = 1 + (bs.map fun b => b.hi + b.lo + 1).sum := by
  have bit : ∀ b, (traceOfPulse p b).countP (· ∈ samplingInstrs) = b.hi + b.lo + 1 := fun b => by
    simp [traceOfPulse, List.countP_replicate, Nat.add_assoc]
  have approach : (traceToPresence p).countP (· ∈ samplingInstrs) = 1 := by
    simp [traceToPresence, List.countP_replicate]
  rw [countP_tracePollCycle, approach, funext bit]
  rfl

/-- A frame's POLL_CYCLE delivers once (42_checksum_report.md R167). -/
theorem countP_report_tracePollCycle (p : Params) (bs : List Pulse) :
    (tracePollCycle p (some bs)).countP (· = .report) = 1 := by
  have bit : ∀ b, (traceOfPulse p b).countP (· = .report) = 0 := fun b => by
    simp [traceOfPulse, List.countP_replicate]
  have approach : (traceToPresence p).countP (· = .report) = 0 := by
    simp [traceToPresence, List.countP_replicate]
  rw [countP_tracePollCycle, approach, funext bit]
  simp

/-- The registers when PRESENCE has found the sensor, and WAIT_HI of the first bit is due (R130). -/
def State.frameBegun (s : State) : State := s.atPresence.clearFrame.goTo .waitHi

/-- The report of CHECK after these bits, in the REPORT cycle. -/
def State.frameReported (s : State) (bits : List Bit) : State :=
  let f := s.frameBegun.afterBits bits
  f.deliver (.ofFrame f.params.strictChecksum f.data f.chk)

/-- A Low line in the PRESENCE cycle and 40 pulses lead from ARM to REPORT, with everything shown but REPORT. -/
theorem ReachedAs.frameReported {s : State} {n c : Nat} {bs : List Pulse} (quiet : Quiet s n)
    (hc : c = 4 + (s.params.tInter + s.params.tStart + s.params.tResp) * s.params.unitCycles)
    (e : s.HasEngine) (code : s.st = 0x0#4) (low : lineAt s c = 0) (pulses : PulsesAt s (c + 1) bs)
    (length : bs.length = 40) (le : c + 1 + pulsesCycles s.params bs + 2 ≤ n) :
    ReachedAs s (c + 1 + pulsesCycles s.params bs + 1)
      (traceToPresence s.params ++ (bs.map (traceOfPulse s.params)).flatten ++ [.check])
      (s.frameReported (bs.map Pulse.value)) := by
  have atPresence : ReachedAs s c (traceToPresence s.params).dropLast s.atPresence := by
    subst hc
    exact .presence quiet e code (by omega)
  have begun : ReachedAs s (c + 1) (traceToPresence s.params) s.frameBegun := by
    have shown : traceToPresence s.params = (traceToPresence s.params).dropLast ++ [.presence] := by
      rw [traceToPresence, List.dropLast_concat]
    rw [shown]
    refine atPresence.cycle quiet (by omega) rfl ?_
    rintro _ ⟨chain, placed, tick, rfl⟩ line
    exact ⟨_, exec_presence_low (line.trans low), chain, placed, tick, rfl⟩
  have start : BetweenBits s.frameBegun := ⟨rfl, rfl⟩
  have bits : s.frameBegun.bidx.toNat + (bs.map Pulse.value).length = 40 := by
    rw [List.length_map, length]
    rfl
  have done : (s.frameBegun.afterBits (bs.map Pulse.value)).st = Instr.check.code :=
    (start.afterBits bits.le).code.trans (if_pos ((State.afterBits_bidx bits.le).trans bits))
  have assembled := begun.pulses quiet start pulses (by rw [← bits, List.length_map]) (by omega)
  exact assembled.rule quiet (by omega) done (by decide) rfl

/-- The halves of the data field of a frame are `frame[39:24]` and `frame[23:8]` (R63, 30_encoding.md R89). -/
theorem halves_of_frame (frame : BitVec 40) :
    humOf (frame.extractLsb' 8 32) = frame.extractLsb' 24 16 ∧
      tempOf (frame.extractLsb' 8 32) = frame.extractLsb' 8 16 := by
  unfold humOf tempOf
  constructor <;> refine BitVec.eq_of_getLsbD_eq fun i lt => ?_
  · simp [lt, show 16 + i < 32 by omega, show 8 + (16 + i) = 24 + i by omega]
  · simp [lt, show i < 32 by omega]

/-- The report registers after the 40 bits of a frame: its fields, and the verdict and outcome of CHECK (R63,
42_checksum_report.md R160, R163). -/
theorem frameReported_fields {s : State} {bits : List Bit} {frame : BitVec 40} (length : bits.length = 40)
    (carries : ∀ k (h : k < bits.length), bits[k] = BitVec.ofBool (frame.getLsbD (39 - k)))
    (params : (s.frameReported bits).params = s.params) :
    (s.frameReported bits).rptHum = frame.extractLsb' 24 16 ∧
    (s.frameReported bits).rptTemp = frame.extractLsb' 8 16 ∧
    (s.frameReported bits).rptChk = frame.extractLsb' 0 8 ∧
    (s.frameReported bits).rptCalc = byteSum (frame.extractLsb' 8 32) ∧
    ((s.frameReported bits).rptChkOk = 1 ↔ (s.frameReported bits).rptCalc = (s.frameReported bits).rptChk) ∧
    (s.frameReported bits).rptStatus =
      if s.params.strictChecksum = 1 ∧ (s.frameReported bits).rptChkOk = 0 then 0b10#2 else 0b01#2 := by
  obtain ⟨data, chk⟩ := State.afterBits_frame (s := s.frameBegun) rfl length carries
  obtain ⟨hum, temp⟩ := halves_of_frame frame
  refine ⟨(congrArg humOf data).trans hum, (congrArg tempOf data).trans temp, chk, congrArg byteSum data,
    checksumOk_eq_one, ?status⟩
  rw [← params]
  exact apply_ite Status.code _ _ _

/-- Settles O51: the run of `ReachedAs.frameReported` and one REPORT cycle; the reads and the reports are counted
over its trace, and the fields are those of `frameReported_fields`. -/
theorem framePollCycle : Obligations.FramePollCycle := by
  intro s frame bs c n hc hn e code quiet low pulses carries
  obtain ⟨length, bits⟩ := carries
  have reported := ReachedAs.frameReported quiet hc e code low pulses length (by omega)
  have ended := reported.rule (i := .report) quiet (by omega) rfl (by decide) rfl
  have last : c + 1 + pulsesCycles s.params bs + 1 = n - 1 := by omega
  have all : n - 1 + 1 = n := by omega
  rw [last] at reported ended
  rw [all, List.append_assoc _ [Instr.check]] at ended
  obtain ⟨hum, temp, chk, computed, verdict, status⟩ := frameReported_fields (s := s) (bits := bs.map Pulse.value)
    (by rwa [List.length_map]) (fun k h => by rw [List.getElem_map]; exact bits k _) reported.params
  obtain ⟨t, atReport, chain, placed, tick, rfl⟩ := reported
  obtain ⟨u, atArm, chain', placed', tick', rfl⟩ := ended
  have shown : trace n s = tracePollCycle s.params (some bs) := atArm.shown
  refine ⟨shown, ?reads, ?reports, _, _, atReport.run, rfl, atReport.rptValid quiet (by omega) rfl, hum, temp, chk,
    computed, verdict, status, atArm.run, rfl⟩
  case reads => rw [readCount_eq quiet, shown, countP_sampling_tracePollCycle]
  case reports => rw [reportCount_eq quiet, shown, countP_report_tracePollCycle]

end Sys2Proof.Machine

/-! SUPPORT. The proofs about the encoding (30_encoding.md): the state codes and the opcode table (R80, R81, R90), the
state word as a byte, and the traces that R95 and R96 expand: one bit, and the Absent poller cycle. -/

namespace Sys2Proof.Machine

/-! ### State codes (R80, R81) -/

/-- Each instruction's code decodes to it, and the opcode table has its row. -/
theorem codeInTable (i : Instr) : Laws.CodeInTable.Statement i := by
  cases i with
  | arm => exact Laws.CodeInTable.arm
  | interWait => exact Laws.CodeInTable.interWait
  | startHi => exact Laws.CodeInTable.startHi
  | startWait => exact Laws.CodeInTable.startWait
  | startLo => exact Laws.CodeInTable.startLo
  | release => exact Laws.CodeInTable.release
  | respWait => exact Laws.CodeInTable.respWait
  | presence => exact Laws.CodeInTable.presence
  | waitHi => exact Laws.CodeInTable.waitHi
  | waitLo => exact Laws.CodeInTable.waitLo
  | bitWait => exact Laws.CodeInTable.bitWait
  | sample => exact Laws.CodeInTable.sample
  | check => exact Laws.CodeInTable.check
  | report => exact Laws.CodeInTable.report
  | cancelled => exact Laws.CodeInTable.cancelled
  | reservedF => exact Laws.CodeInTable.reservedF

/-- Decoding inverts the code (R80, R90). -/
theorem decodeState_code (i : Instr) : decodeState i.code = i := (codeInTable i).1

/-- Settles O1: each word is the code of its state. -/
theorem stateCodesDecode : Obligations.StateCodesDecode :=
  ⟨decodeState_code .arm, decodeState_code .interWait, decodeState_code .startHi, decodeState_code .startWait,
    decodeState_code .startLo, decodeState_code .release, decodeState_code .respWait, decodeState_code .presence,
    decodeState_code .waitHi, decodeState_code .waitLo, decodeState_code .bitWait, decodeState_code .sample,
    decodeState_code .check, decodeState_code .report, decodeState_code .cancelled, decodeState_code .reservedF⟩

/-! ### The opcode table (R81, R90) -/

/-- Every mask of the table is full, so a code matches a row exactly if it is the row's match. -/
theorem matches_iff_pattern_eq {r : OpcodeRow} (row : r ∈ opcodeTable) (w : StateCode) :
    r.Matches w ↔ r.pattern = w := by
  have fullMask : ∀ r ∈ opcodeTable, r.mask = BitVec.allOnes 4 := by decide
  rw [OpcodeRow.Matches, fullMask r row, BitVec.and_allOnes]
  exact eq_comm

/-- Settles O2: no two rows have one match, and the row of the decoded instruction has the code. -/
theorem everyCodeSelectsOneRow : Obligations.EveryCodeSelectsOneRow := by
  intro w
  obtain ⟨-, r, row, instr, pattern⟩ := codeInTable (decodeState w)
  rw [code_decodeState] at pattern
  have distinct : (opcodeTable.map OpcodeRow.pattern).Nodup := by decide
  refine ⟨?one, r, row, (matches_iff_pattern_eq row w).mpr pattern, instr⟩
  case one =>
    calc (opcodeTable.filter fun r => r.Matches w).length
        = opcodeTable.countP fun r => r.Matches w := List.countP_eq_length_filter.symm
      _ = opcodeTable.countP fun r => r.pattern == w :=
          List.countP_congr fun r row => by simp only [decide_eq_true_eq, beq_iff_eq, matches_iff_pattern_eq row]
      _ = (opcodeTable.map OpcodeRow.pattern).count w := by
          rw [List.count, List.countP_map]
          rfl
      _ = 1 := List.count_eq_one_of_mem distinct (pattern ▸ List.mem_map_of_mem row)

/-! ### The state word as a byte (R93; log entry 9) -/

/-- A byte carries a state word exactly if it is that word with zeros above it. -/
theorem carriesStateWord_and_truncate_iff {b : Byte} {w : StateCode} :
    (CarriesStateWord b ∧ b.truncate 4 = w) ↔ b = w.zeroExtend 8 := by
  have small : w.toNat < 16 := w.isLt
  rw [CarriesStateWord, ← BitVec.toNat_inj, ← BitVec.toNat_inj, BitVec.toNat_setWidth, BitVec.toNat_setWidth]
  omega

/-- The decoder answers an instruction exactly on its encoding, and hands back what follows. -/
theorem decodeBytes_eq_ok_iff {bs rest : List Byte} {i : Instr} :
    decodeBytes bs = .ok (i, rest) ↔ bs = encode i ++ rest := by
  cases bs with
  | nil => simp [decodeBytes, encode]
  | cons b tail =>
    rw [encode, List.singleton_append, List.cons.injEq, ← carriesStateWord_and_truncate_iff, ← decodeState_eq_iff,
      decodeBytes]
    split
    · next carries => simp [carries]
    · next high => simp [high]

/-- Settles O3: both directions of the decoder's answer, and the branch of a byte with a higher bit. -/
theorem decodeEncodeRoundTrip : Obligations.DecodeEncodeRoundTrip :=
  ⟨fun _ _ => decodeBytes_eq_ok_iff.mpr rfl, fun _ _ _ => decodeBytes_eq_ok_iff.mp,
    fun _ _ high => if_neg (Nat.not_lt.mpr high)⟩

/-! ### Runs (R90) -/

/-- Settles O39: by induction on the cycles; an edge keeps the engine and its parameters. -/
theorem engineNeverStops : Obligations.EngineNeverStops := by
  intro n
  induction n with
  | zero => exact fun s e => ⟨s, rfl, e, rfl⟩
  | succ n ih =>
    intro s e
    obtain ⟨u, next⟩ := step_next e
    obtain ⟨engine, params⟩ := step_engine next
    obtain ⟨t, run, engine', params'⟩ := ih u engine
    exact ⟨t, by rw [runFor, next, ← run], engine', params'.trans params⟩

/-! ### One bit (R95) -/

/-- A bit is shifted in as `(acc << 1) + b` modulo the width (41_frame_assembly.md R134). -/
theorem shiftIn_eq_ofNat {w : Nat} (acc : BitVec w) (b : Bit) :
    shiftIn acc b = BitVec.ofNat w (2 * acc.toNat + b.toNat) := by
  apply BitVec.eq_of_toNat_eq
  simp [shiftIn, Nat.shiftLeft_eq, Nat.mul_comm]

/-- The pin reads of one bit: one a busy-wait cycle and one in SAMPLE (41_frame_assembly.md R139). -/
theorem countP_sampling_traceOfPulse (p : Params) (b : Pulse) :
    (traceOfPulse p b).countP (· ∈ samplingInstrs) = b.hi + b.lo + 1 := by
  simp [traceOfPulse, List.countP_replicate, Nat.add_assoc]

/-- Settles O49: one leg `ReachedAs.pulse`, whose registers are those of `State.afterBit`; the reads are counted
over its trace. -/
theorem oneBitIsAssembled : Obligations.OneBitIsAssembled := by
  intro s b e code clear _ quiet pulse
  have assembled := (ReachedAs.start e quiet.1).pulse quiet code clear pulse (Nat.zero_add _).le
  rw [Nat.zero_add, List.nil_append] at assembled
  obtain ⟨t, reached, chain, placed, tick, rfl⟩ := assembled
  refine ⟨reached.shown, ?reads, _, reached.run, ?registers⟩
  case reads => rw [readCount_eq quiet, reached.shown, countP_sampling_traceOfPulse]
  case registers => simp only [State.afterBit, shiftIn_eq_ofNat, clear]

/-! ### The Absent poller cycle (R95, R96) -/

/-- High in the PRESENCE cycle ends the decode with Absent (41_frame_assembly.md R130). -/
theorem exec_presence_high {s : State} (high : s.lineS = 1) :
    exec .presence s = .next (s.deliver (.zero .absent)) := by
  show execPresence s = _
  exact if_pos high

/-- The one pin read of an Absent POLL_CYCLE is that of PRESENCE (41_frame_assembly.md R139). -/
theorem countP_sampling_absentPollCycle (p : Params) :
    (tracePollCycle p none).countP (· ∈ samplingInstrs) = 1 := by
  simp [tracePollCycle, traceToPresence, List.countP_replicate]

/-- An Absent POLL_CYCLE delivers once (42_checksum_report.md R167). -/
theorem countP_report_absentPollCycle (p : Params) : (tracePollCycle p none).countP (· = .report) = 1 := by
  simp [tracePollCycle, traceToPresence, List.countP_replicate]

/-- A delivered Absent report reads as Absent (R86). -/
theorem Outputs.reading_absent {o : Outputs} (valid : o.rptValidO = 1) (status : o.rptStatusO = Status.absent.code) :
    o.reading = some .absent := by
  rw [Outputs.reading, if_pos valid, status]
  rfl

/-- A High line in the PRESENCE cycle leads from ARM to REPORT with an Absent report of zeros (R87). -/
theorem ReachedAs.absentReported {s : State} {n c : Nat} (quiet : Quiet s n)
    (hc : c = 4 + (s.params.tInter + s.params.tStart + s.params.tResp) * s.params.unitCycles)
    (e : s.HasEngine) (code : s.st = 0x0#4) (high : lineAt s c = 1) (lt : c < n) :
    ReachedAs s (c + 1) (traceToPresence s.params) (s.atPresence.deliver (.zero .absent)) := by
  subst hc
  have shown : traceToPresence s.params = (traceToPresence s.params).dropLast ++ [.presence] := by
    rw [traceToPresence, List.dropLast_concat]
  rw [shown]
  refine (ReachedAs.presence quiet e code lt.le).cycle quiet lt rfl ?_
  rintro _ ⟨chain, placed, tick, rfl⟩ line
  exact ⟨_, exec_presence_high (line.trans high), chain, placed, tick, rfl⟩

/-- Settles O50: the run of `ReachedAs.absentReported` and one REPORT cycle; the reads and the reports are counted
over its trace. -/
theorem absentPollCycle : Obligations.AbsentPollCycle := by
  intro s n hn e code quiet high
  have reported := ReachedAs.absentReported quiet (c := n - 2) (by omega) e code high (by omega)
  have ended := reported.rule (i := .report) quiet (by omega) rfl (by decide) rfl
  have last : n - 2 + 1 = n - 1 := by omega
  have all : n - 1 + 1 = n := by omega
  rw [last] at reported ended
  rw [all] at ended
  obtain ⟨t, atReport, chain, placed, tick, rfl⟩ := reported
  obtain ⟨u, atArm, chain', placed', tick', rfl⟩ := ended
  have shown : trace n s = tracePollCycle s.params none := atArm.shown
  refine ⟨shown, ?reads, ?reports, _, _, atReport.run, rfl, ?reading, rfl, rfl, rfl, rfl, rfl, atArm.run, rfl⟩
  case reads => rw [readCount_eq quiet, shown, countP_sampling_absentPollCycle]
  case reports => rw [reportCount_eq quiet, shown, countP_report_absentPollCycle]
  case reading => exact Outputs.reading_absent (atReport.rptValid quiet (by omega) rfl) rfl

end Sys2Proof.Machine

/-! SUPPORT. The proofs about the start signal (40_start_signal.md): the rules of START_HI, START_LO and RELEASE (R110,
R112, R113), the countdown of the wait states (R115), and the pins of R116 in a sampling cycle and at a
cancellation. -/

namespace Sys2Proof.Machine

/-! ### The rules of START_HI, START_LO and RELEASE -/

/-- Settles O11: both sides are the record that the writers of R110 make, the wait load (R88) with them. -/
theorem startHiBeginsHold : Obligations.StartHiBeginsHold :=
  ⟨decodeState_code .startHi, fun _ => rfl⟩

/-- Settles O12: both sides are the record that the writers of R112 make. -/
theorem startLoDrivesLow : Obligations.StartLoDrivesLow :=
  ⟨decodeState_code .startLo, fun _ => rfl⟩

/-- Settles O13: both sides are the record that the writers of R113 make, the wait load (R88) with them. -/
theorem releaseFreesLine : Obligations.ReleaseFreesLine :=
  ⟨decodeState_code .release, fun _ => rfl⟩

/-! ### Countdown (R115) -/

/-- At a count of at most 1 a wait state ends. -/
theorem exec_wait_ends {wait next : Instr} (pair : WaitPair wait next) {s : State} (low : s.wcnt.toNat ≤ 1) :
    exec wait s = .next { s with wcnt := 0, st := next.code } := by
  obtain ⟨-, ends⟩ | ⟨more, -⟩ := s.countdown_cases next
  · rw [exec_wait pair, ends]
  · omega

/-- Above 1 a wait state counts. -/
theorem exec_wait_counts {wait next : Instr} (pair : WaitPair wait next) {s : State} (more : 1 < s.wcnt.toNat) :
    exec wait s = .next { s with wcnt := s.wcnt - 1 } := by
  obtain ⟨low, -⟩ | ⟨-, counts⟩ := s.countdown_cases next
  · omega
  · rw [exec_wait pair, counts]

/-- Settles O14: the two branches of Countdown, for each wait state with its successor. -/
theorem waitStatesCountDown : Obligations.WaitStatesCountDown :=
  ⟨fun _ low => ⟨exec_wait_ends .interWait low, exec_wait_ends .startWait low, exec_wait_ends .respWait low,
      exec_wait_ends .bitWait low⟩,
    fun _ more => ⟨exec_wait_counts .interWait more, exec_wait_counts .startWait more,
      exec_wait_counts .respWait more, exec_wait_counts .bitWait more⟩⟩

/-! ### The pins by instruction (R116) -/

/-- The instructions before the first ARM edge and from RESP_WAIT to the next one. -/
abbrev releasedInstrs : List Instr :=
  [.arm, .respWait, .presence, .waitHi, .waitLo, .bitWait, .sample, .check, .report]

/-- The direction is Input in every state of the protocol in which the line is released. -/
theorem PinsAgree.pinDir_of_released {s : State} (pins : PinsAgree s) (h : s.fetch ∈ releasedInstrs) :
    s.pinDir = 0 := by
  have codes : ∀ w, decodeState w ∈ releasedInstrs →
      w ∈ [0x0#4, 0x6#4, 0x7#4, 0x8#4, 0x9#4, 0xA#4, 0xB#4, 0xC#4, 0xD#4] := by decide
  exact (pins.released (codes s.st h)).1

/-- The line is driven High from the ARM edge to the START_LO edge. -/
theorem PinsAgree.high_of_fetch {s : State} (pins : PinsAgree s)
    (h : s.fetch ∈ [Instr.interWait, .startHi, .startWait, .startLo]) : s.pinDir = 1 ∧ s.pinOut = 1 := by
  have codes : ∀ w, decodeState w ∈ [Instr.interWait, .startHi, .startWait, .startLo] →
      w ∈ [0x1#4, 0x2#4, 0x3#4, 0x4#4] := by decide
  exact pins.high (codes s.st h)

/-- The line is driven Low in RELEASE. -/
theorem PinsAgree.low_of_fetch {s : State} (pins : PinsAgree s) (h : s.fetch = .release) :
    s.pinDir = 1 ∧ s.pinOut = 0 :=
  pins.low ((decodeState_eq_iff s.st .release).mp h)

/-- Settles O42: a pin read happens in a sampling state alone (R35), and each of them has the line released. -/
theorem samplesOnlyWhileInput : Obligations.SamplesOnlyWhileInput := by
  intro s inv read
  obtain ⟨reads, -, -⟩ := combinationalOutputs s
  obtain ⟨-, -, -, sampling⟩ := reads.mp read
  have released : samplingInstrs ⊆ releasedInstrs := by decide
  exact inv.pins.pinDir_of_released (released sampling)

/-- Settles O43: a cancellation writes no pin-control register (R204), so the pins of R116 stay. -/
theorem cancellationLeavesPin : Obligations.CancellationLeavesPin := by
  intro s t inv rst cancel _ h
  have raised : s.cx = 1 := s.cx_eq_one.mpr (.inr cancel)
  obtain rfl : s.endCycle s.raiseCancel = t :=
    Host.Outcome.next.inj ((step_cancel inv.engine rst raised).symm.trans h)
  exact ⟨inv.pins.high_of_fetch, inv.pins.low_of_fetch, inv.pins.pinDir_of_released⟩

end Sys2Proof.Machine

/-! SUPPORT. The proofs about the assembly of the frame (41_frame_assembly.md): the rules of PRESENCE, WAIT_HI, WAIT_LO
and SAMPLE (R130, R131, R132, R134) with their pin read (R35), the two answers of BusyStay (R135), and the busy-wait
that no guard ends (R140). -/

namespace Sys2Proof.Machine

/-! ### The pin read of a sampling state (R35) -/

/-- In a cycle without reset and cancellation a sampling state reads the pin. -/
theorem pinRdO_of_sampling {i : Instr} (sampling : i ∈ samplingInstrs) {s : State} (code : s.st = i.code)
    (rst : s.ports.rst = 0) (latch : s.cancelQ = 0) (cancel : s.ports.cancel = 0) : s.outputs.pinRdO = 1 := by
  obtain ⟨reads, -, -⟩ := combinationalOutputs s
  have fetched : decodeState s.st = i := (decodeState_eq_iff s.st i).mpr code
  exact reads.mpr ⟨rst, latch, cancel, fetched ▸ sampling⟩

/-! ### PRESENCE (R130) -/

/-- Settles O15: the two levels of the line are the two branches of the rule. -/
theorem presenceChecksSensor : Obligations.PresenceChecksSensor :=
  ⟨decodeState_code .presence, fun _ => pinRdO_of_sampling (i := .presence) (by decide),
    fun _ => exec_presence_high, fun _ => exec_presence_low⟩

/-! ### BusyStay (R135) and the two busy-waits -/

/-- Where the guard fires, the decode ends with Timeout and zeros (30_encoding.md R87). -/
theorem State.busyStay_of_guardFires {s : State} (fires : s.GuardFires) :
    s.busyStay = { s with
      rptStatus := 0b11#2, rptHum := 0, rptTemp := 0, rptChk := 0, rptCalc := 0, rptChkOk := 0, st := 0xD#4 } := by
  obtain ⟨-, ends⟩ | ⟨below, -⟩ := s.busyStay_cases
  · exact ends
  · exact absurd fires below

/-- Where the guard does not fire, the stay-sample is counted, modulo the counter's width (10_state.md R27). -/
theorem State.busyStay_of_not_guardFires {s : State} (below : ¬ s.GuardFires) :
    s.busyStay = { s with bwc := BitVec.ofNat 32 (s.bwc.toNat + 1) } := by
  have count : BitVec.ofNat 32 (s.bwc.toNat + 1) = s.bwc + 1 := by bv_omega
  obtain ⟨fires, -⟩ | ⟨-, counts⟩ := s.busyStay_cases
  · exact absurd fires below
  · rw [counts, count]

/-- The stay-sample at which the guard fires ends the busy-wait with Timeout. -/
theorem exec_stay_timesOut {busy : Instr} {v : Bit} (stays : StaysAt busy v) {s : State} (level : s.lineS = v)
    (fires : s.GuardFires) :
    exec busy s = .next { s with
      rptStatus := 0b11#2, rptHum := 0, rptTemp := 0, rptChk := 0, rptCalc := 0, rptChkOk := 0, st := 0xD#4 } := by
  rw [exec_stay stays level, State.busyStay_of_guardFires fires]

/-- Any other stay-sample is counted, and the busy-wait goes on. -/
theorem exec_stay_counts {busy : Instr} {v : Bit} (stays : StaysAt busy v) {s : State} (level : s.lineS = v)
    (below : ¬ s.GuardFires) :
    exec busy s = .next { s with bwc := BitVec.ofNat 32 (s.bwc.toNat + 1) } := by
  rw [exec_stay stays level, State.busyStay_of_not_guardFires below]

/-- Settles O16: Low is the exit, and High the stay level with its two answers. -/
theorem waitHiBusyWaits : Obligations.WaitHiBusyWaits :=
  ⟨decodeState_code .waitHi, fun _ => pinRdO_of_sampling (i := .waitHi) (by decide), fun _ => exec_waitHi_low,
    fun _ => exec_stay_timesOut .waitHi, fun _ => exec_stay_counts .waitHi⟩

/-- Settles O17: High is the exit, with the settle delay loaded (30_encoding.md R88), and Low the stay level with its
two answers. -/
theorem waitLoBusyWaits : Obligations.WaitLoBusyWaits :=
  ⟨decodeState_code .waitLo, fun _ => pinRdO_of_sampling (i := .waitLo) (by decide), fun _ => exec_waitLo_high,
    fun _ => exec_stay_timesOut .waitLo, fun _ => exec_stay_counts .waitLo⟩

/-! ### SAMPLE (R134) -/

/-- Settles O18: `exec_sample` has the choice of the field and of the successor; a bit below 32 is not the last. -/
theorem sampleShiftsOneBit : Obligations.SampleShiftsOneBit := by
  refine ⟨decodeState_code .sample, fun _ => pinRdO_of_sampling (i := .sample) (by decide), ?data, ?chk⟩
  case data =>
    intro s field
    have more : s.bidx.toNat ≠ 39 := by omega
    simp only [exec_sample, State.afterBit, if_pos field, if_neg more, shiftIn_eq_ofNat]
  case chk =>
    intro s field
    simp only [exec_sample, State.afterBit, if_neg (Nat.not_lt.mpr field), shiftIn_eq_ofNat]

/-! ### A stuck line (R140) -/

/-- Without a guard the engine stays in the busy-wait while the line is at its stay level: each cycle is one leg of
`ReachedAs.stay`, which reads the pin and counts it, and none of them is REPORT. -/
theorem busyWait_stays_unguarded {busy : Instr} {v : Bit} (stays : StaysAt busy v) {n : Nat} {s : State}
    (e : s.HasEngine) (unguarded : s.params.busyGuard = 0) (quiet : Quiet s n) (code : s.st = busy.code)
    (level : ∀ j < n, lineAt s j = v) :
    (∃ t, runFor n s = .next t ∧ t.st = s.st ∧ t.bwc = s.bwc + BitVec.ofNat 32 n) ∧
    readCount n s = n ∧ reportCount n s = 0 := by
  have stuck := (ReachedAs.start e quiet.1).stay stays quiet (k := n) code
    (fun j hj => by rw [Nat.zero_add]; exact level j hj) (.inl unguarded) (Nat.zero_add n).le
  rw [Nat.zero_add, List.nil_append] at stuck
  obtain ⟨t, reached, chain, placed, tick, rfl⟩ := stuck
  have sampling : busy ∈ samplingInstrs := by cases stays <;> decide
  have noReport : busy ≠ .report := by cases stays <;> decide
  refine ⟨⟨_, reached.run, rfl, rfl⟩, ?reads, ?reports⟩
  case reads => rw [readCount_eq quiet, reached.shown, List.countP_replicate, if_pos (decide_eq_true sampling)]
  case reports => simp [reportCount_eq quiet, reached.shown, List.countP_replicate, noReport]

/-- Settles O45: the two cases are the two busy-waits, each at its stay level. -/
theorem stuckLineHangs : Obligations.StuckLineHangs := by
  intro n s e unguarded quiet stuck
  obtain ⟨code, high⟩ | ⟨code, low⟩ := stuck
  · exact busyWait_stays_unguarded .waitHi e unguarded quiet code high
  · exact busyWait_stays_unguarded .waitLo e unguarded quiet code low

end Sys2Proof.Machine

/-! SUPPORT. The proofs about the checksum and the report (42_checksum_report.md): the slices and the verdict that CHECK
reports (R160), the outcome it selects (R163, R164), and the delivery in REPORT (R167) with the values of a Present
Reading (R165). -/

namespace Sys2Proof.Machine

/-! ### What CHECK reports (R160) -/

/-- `data[31:16]` in arithmetic form (30_encoding.md R89). -/
theorem humOf_eq_ofNat (data : Word) : humOf data = BitVec.ofNat 16 (data.toNat / 2 ^ 16) := by
  rw [humOf, BitVec.extractLsb', Nat.shiftRight_eq_div_pow]

/-- `data[15:0]` in arithmetic form (30_encoding.md R89). -/
theorem tempOf_eq_ofNat (data : Word) : tempOf data = BitVec.ofNat 16 data.toNat := by
  rw [tempOf, BitVec.extractLsb', Nat.shiftRight_zero]

/-- The verdict is 0 exactly for a frame whose checksum differs from the computed one. -/
theorem checksumOk_eq_zero {data : Word} {chk : Byte} : checksumOk data chk = 0 ↔ byteSum data ≠ chk :=
  bit_ne_one.symm.trans checksumOk_eq_one.not

/-- A bit that is 1 exactly for a matching checksum is the verdict. -/
theorem eq_checksumOk {data : Word} {chk : Byte} {ok : Bit} (verdict : ok = 1 ↔ byteSum data = chk) :
    ok = checksumOk data chk := by
  have ext : ∀ a b : Bit, (a = 1 ↔ b = 1) → a = b := by decide
  exact ext _ _ (verdict.trans checksumOk_eq_one.symm)

/-- The code of the outcome of an assembled frame (30_encoding.md R86). -/
theorem frameStatus_code (strict : Nat) (ok : Bit) :
    (frameStatus strict ok).code = if strict = 1 ∧ ok = 0 then 0b10#2 else 0b01#2 :=
  apply_ite Status.code _ _ _

/-- CHECK delivers the report of the assembled frame. -/
theorem exec_check (s : State) :
    exec .check s = .next (s.deliver (.ofFrame s.params.strictChecksum s.data s.chk)) := rfl

/-- Settles O19: the two halves in arithmetic form, the verdict, which its equivalence determines, and the code of the
outcome. -/
theorem checkValidatesFrame : Obligations.CheckValidatesFrame := by
  refine ⟨decodeState_code .check, ?_⟩
  rintro s _ ok rfl verdict
  rw [← humOf_eq_ofNat, ← tempOf_eq_ofNat, ← frameStatus_code, eq_checksumOk verdict]
  rfl

/-! ### The outcome that STRICT_CHECKSUM selects (R163, R164) -/

/-- Without the strict setting every assembled frame is Present, whatever the verdict. -/
theorem frameStatus_reference {strict : Nat} (reference : strict = 0) (ok : Bit) :
    frameStatus strict ok = .present := by
  refine if_neg fun ⟨isStrict, _⟩ => ?_
  omega

/-- Under the strict setting a frame whose checksum differs is a ChecksumMismatch. -/
theorem frameStatus_of_mismatch {strict : Nat} {data : Word} {chk : Byte} (isStrict : strict = 1)
    (differs : byteSum data ≠ chk) : frameStatus strict (checksumOk data chk) = .checksumMismatch :=
  if_pos ⟨isStrict, checksumOk_eq_zero.mpr differs⟩

/-- A frame whose checksum agrees is Present under either setting. -/
theorem frameStatus_of_match (strict : Nat) {data : Word} {chk : Byte} (agrees : byteSum data = chk) :
    frameStatus strict (checksumOk data chk) = .present :=
  if_neg fun ⟨_, rejected⟩ => checksumOk_eq_zero.mp rejected agrees

/-- Settles O25: the report that CHECK delivers has the verdict, the outcome of each case, and both halves of the data
field. -/
theorem strictSelectsOutcome : Obligations.StrictSelectsOutcome := fun s =>
  ⟨_, exec_check s, checksumOk_eq_one,
    fun reference => congrArg Status.code (frameStatus_reference reference _),
    fun isStrict differs => congrArg Status.code (frameStatus_of_mismatch isStrict differs),
    fun _ agrees => congrArg Status.code (frameStatus_of_match _ agrees),
    humOf_append_tempOf s.data⟩

/-- Settles O26: both outcomes are Present, and the other fields of the report are copies and slices of the
accumulators. -/
theorem referenceIgnoresChecksum : Obligations.ReferenceIgnoresChecksum := by
  intro s k reference
  refine ⟨_, _, exec_check s, exec_check _, ?_⟩
  simp only [State.deliver_eq, Report.ofFrame, frameStatus_reference reference]

/-! ### REPORT (R167) and its Reading (R165) -/

/-- The REPORT cycle delivers (10_state.md R35). -/
theorem rptValidO_of_report {s : State} (code : s.st = 0xD#4) (rst : s.ports.rst = 0) : s.outputs.rptValidO = 1 := by
  obtain ⟨-, reports, -⟩ := combinationalOutputs s
  exact reports.mpr ⟨rst, (decodeState_eq_iff _ .report).mpr code⟩

/-- Settles O20: the edge makes the one write of R167. -/
theorem reportDeliversOnce : Obligations.ReportDeliversOnce :=
  ⟨decodeState_code .report, fun _ => rptValidO_of_report, fun _ => rfl⟩

/-- A delivered Present report reads as Present with the exact values of its raw halves (30_encoding.md R86). -/
theorem Outputs.reading_present {o : Outputs} (valid : o.rptValidO = 1) (status : o.rptStatusO = Status.present.code) :
    o.reading = some (.present (rawValue o.rptHumO) (rawValue o.rptTempO)) := by
  rw [Outputs.reading, if_pos valid, status]
  rfl

/-- A raw half has 16 bits, so its value lies between 0 and `65535 / 256`. -/
theorem rawValue_range (raw : Half) : 0 ≤ rawValue raw ∧ rawValue raw ≤ 65535 / 256 := by
  have top : (raw.toNat : ℚ) ≤ 65535 := by exact_mod_cast Nat.le_of_lt_succ raw.isLt
  unfold rawValue
  constructor
  · positivity
  · gcongr

/-- Settles O27: REPORT delivers, and both values are those of `rawValue`. -/
theorem presentReadingIsRawOver256 : Obligations.PresentReadingIsRawOver256 := fun s rst code status =>
  ⟨Outputs.reading_present (rptValidO_of_report code rst) status, rawValue_range s.rptHum, rawValue_range s.rptTemp⟩

end Sys2Proof.Machine

/-! SUPPORT. The proofs about the poller cadence (43_poller_cadence.md): the rules of ARM, CANCELLED and the reserved
code (R180, R183, R184), the loop along which the rules lead from state to state (R182), and what a run in CANCELLED
keeps and shows (60_exceptions.md R219, R220). -/

namespace Sys2Proof.Machine

/-! ### The rules of ARM, CANCELLED and the reserved code -/

/-- Settles O10: the state code of the reset column is that of ARM, and both sides of the rule are the record that the
writers of R180 make, the wait load (R88) with them. -/
theorem armReassertsIdle : Obligations.ArmReassertsIdle :=
  ⟨decodeState_code .arm, fun _ => rfl, fun _ => rfl⟩

/-- A cycle in CANCELLED shows `stopped_o` (10_state.md R35). -/
theorem stoppedO_of_cancelled {s : State} (code : s.st = 0xE#4) (rst : s.ports.rst = 0) : s.outputs.stoppedO = 1 := by
  obtain ⟨-, -, stops⟩ := combinationalOutputs s
  exact stops.mpr ⟨rst, (decodeState_eq_iff _ .cancelled).mpr code⟩

/-- Settles O21: the rule has no write, and the output is that of R35. -/
theorem cancelledKeepsEveryRegister : Obligations.CancelledKeepsEveryRegister :=
  ⟨decodeState_code .cancelled, fun _ => rfl, fun _ => stoppedO_of_cancelled⟩

/-- Settles O22: the rule's one write is the move to CANCELLED. -/
theorem reservedCodeStops : Obligations.ReservedCodeStops :=
  ⟨decodeState_code .reservedF, fun _ => rfl⟩

/-! ### The poller loop (R182) -/

/-- Every branch of a rule leads to a successor of its state. Of each state's list the first is the state itself where
a wait or a busy-wait can go on. -/
theorem RuleEffect.successor {s t : State} {i : Instr} (effect : RuleEffect s i t) (code : s.st = i.code) :
    ∃ next ∈ successors i, t.st = next.code := by
  cases effect with
  | arm | startHi | startLo | release | absent | sampleData | sampleChk | check | report | reservedF =>
    exact ⟨_, .head _, rfl⟩
  | present | waitHiEnds | waitLoEnds | sampleLast => exact ⟨_, .tail _ (.head _), rfl⟩
  | waitEnds pair => cases pair <;> exact ⟨_, .tail _ (.head _), rfl⟩
  | waitCounts pair => cases pair <;> exact ⟨_, .head _, code⟩
  | stayTimesOut busy => obtain rfl | rfl := busy <;> exact ⟨_, .tail _ (.tail _ (.head _)), rfl⟩
  | stayCounts busy => obtain rfl | rfl := busy <;> exact ⟨_, .head _, code⟩
  | cancelled => exact ⟨_, .head _, code⟩

/-- Settles O33: without cancellation the edge is the rule of the state, and every branch of a rule leads to a
successor. -/
theorem pollerLoopSuccessors : Obligations.PollerLoopSuccessors := by
  intro s t rst latch cancel h
  obtain ⟨raised, -⟩ | ⟨-, r, effect, rfl⟩ := step_effect rst h
  · have quiet : s.cx = 0 := s.cx_eq_zero.mpr ⟨latch, cancel⟩
    rw [quiet] at raised
    exact absurd raised (by decide)
  · obtain ⟨next, listed, code⟩ := effect.successor s.st_eq_code
    exact (decodeState_eq_iff r.st next).mpr code ▸ listed

/-! ### Quiescence of CANCELLED (60_exceptions.md R219, R220) -/

/-- What the cycles of a run without reset show, if every edge without reset keeps `P` and a cycle with `P` shows
`Q`. -/
theorem observe_keeps {P : State → Prop} {Q : Outputs → Prop}
    (keep : ∀ s t : State, s.ports.rst = 0 → step s = .next t → P s → P t)
    (shows : ∀ s : State, s.ports.rst = 0 → P s → Q s.outputs) :
    ∀ (n : Nat) (s : State), NoReset s n → P s → ∀ o ∈ observe n s, Q o := by
  intro n
  induction n with
  | zero => exact fun s _ _ o seen => absurd seen List.not_mem_nil
  | succ n ih =>
    intro s quiet hs
    rw [observe, List.forall_mem_cons]
    refine ⟨shows s quiet.now hs, ?_⟩
    split
    · next t h => exact ih t (quiet.later h) (keep s t quiet.now h hs)
    · exact fun o seen => absurd seen List.not_mem_nil
    · exact fun o seen => absurd seen List.not_mem_nil

/-- `t` holds what `s` holds in every field but the latch, the synchroniser and the input side: what an edge in
CANCELLED may move. -/
def SameButLatch (s t : State) : Prop :=
  t = { s with cancelQ := t.cancelQ, sync := t.sync, stimulus := t.stimulus, tick := t.tick }

/-- The state register is one of the fields that `SameButLatch` keeps. -/
theorem SameButLatch.st {s t : State} (same : SameButLatch s t) : t.st = s.st := by
  rw [same]

/-- Two such steps make one. -/
theorem SameButLatch.trans {s t u : State} (first : SameButLatch s t) (second : SameButLatch t u) :
    SameButLatch s u := by
  rw [SameButLatch, first] at second
  exact second

/-- An edge in CANCELLED without reset moves the latch, the synchroniser and the inputs alone: a cancellation writes the
code that `st` already has (R204), and the rule writes nothing (R183). -/
theorem step_cancelled {s t : State} (rst : s.ports.rst = 0) (h : step s = .next t) (code : s.st = 0xE#4) :
    SameButLatch s t := by
  obtain ⟨-, rfl⟩ | ⟨-, r, effect, rfl⟩ := step_effect rst h
  · have stays : s.raiseCancel = s := congrArg (fun st => { s with st := st }) code.symm
    rw [stays]
    rfl
  · have fetched : s.fetch = .cancelled := (decodeState_eq_iff _ .cancelled).mpr code
    rw [fetched] at effect
    cases effect with
    | cancelled => rfl
    | waitEnds pair | waitCounts pair => cases pair
    | stayTimesOut busy | stayCounts busy => simp at busy

/-- A cycle in CANCELLED without reset shows `stopped_o` alone: no pin read and no report (10_state.md R35). -/
theorem outputs_cancelled {s : State} (rst : s.ports.rst = 0) (code : s.st = 0xE#4) :
    s.outputs.stoppedO = 1 ∧ s.outputs.pinRdO ≠ 1 ∧ s.outputs.rptValidO ≠ 1 := by
  obtain ⟨reads, reports, -⟩ := combinationalOutputs s
  have decoded : decodeState s.st = .cancelled := (decodeState_eq_iff _ .cancelled).mpr code
  rw [Ne, Ne, reads, reports, decoded]
  exact ⟨stoppedO_of_cancelled code rst, by simp, by simp⟩

/-- Settles O36: by `runFor_keeps` and `observe_keeps`, for the run answers (O39) and each of its edges is one of
`step_cancelled`. -/
theorem cancelledIsQuiescent : Obligations.CancelledIsQuiescent := by
  intro n s e quiet code
  obtain ⟨t, run, -, -⟩ := engineNeverStops n s e
  have same : SameButLatch s t :=
    runFor_keeps (fun u v rst h kept => kept.trans (step_cancelled rst h (kept.st.trans code))) n s t quiet rfl run
  have shown : ∀ o ∈ observe n s, o.stoppedO = 1 ∧ o.pinRdO ≠ 1 ∧ o.rptValidO ≠ 1 :=
    observe_keeps (fun u v rst h code => (step_cancelled rst h code).st.trans code) (fun _ => outputs_cancelled)
      n s quiet code
  refine ⟨⟨t, run, same⟩, ?reads, ?reports, ?stopped⟩
  case reads =>
    refine List.countP_eq_zero.mpr fun o seen => ?_
    obtain ⟨-, noRead, -⟩ := shown o seen
    simpa using noRead
  case reports =>
    refine List.countP_eq_zero.mpr fun o seen => ?_
    obtain ⟨-, -, noReport⟩ := shown o seen
    simpa using noReport
  case stopped => exact fun o seen => (shown o seen).1

end Sys2Proof.Machine

/-! SUPPORT. The proof about the cancellation edge (60_exceptions.md R204): what it assigns, and that its cycle reads no
pin. -/

namespace Sys2Proof.Machine

/-- In a cycle with the latch or the input of the cancellation up no state reads the pin (R204, 10_state.md R35). -/
theorem pinRdO_of_cx {s : State} (raised : s.cx = 1) : s.outputs.pinRdO = 0 := by
  obtain ⟨reads, -, -⟩ := combinationalOutputs s
  refine bit_ne_one.mp fun read => ?_
  obtain ⟨-, latch, cancel, -⟩ := reads.mp read
  have quiet : s.cx = 0 := s.cx_eq_zero.mpr ⟨latch, cancel⟩
  exact absurd (raised.symm.trans quiet) (by decide)

/-- Settles O6: the edge is `raiseCancel`, which writes `st` alone, and the end of the cycle, whose latch takes 1. -/
theorem cancelEdgeSuppressesStateRule : Obligations.CancelEdgeSuppressesStateRule := by
  intro s e rst cancel
  have raised : s.cx = 1 := s.cx_eq_one.mpr cancel
  refine ⟨⟨s.endCycle s.raiseCancel, step_cancel e rst raised, ?_⟩, pinRdO_of_cx raised⟩
  rw [State.endCycle, raised, State.shiftedSync_eq_take e]
  rfl

end Sys2Proof.Machine

/-! SUPPORT. The proofs about reset (70_reset_and_hazards.md R240, R242): what a reset edge assigns, and what the ports
show while reset is asserted. -/

namespace Sys2Proof.Machine

/-- While `rst_i = 1` the engine reads no pin, reports nothing and is not stopped, whatever its registers (R242,
10_state.md R35). -/
theorem outputs_reset {s : State} (rst : s.ports.rst = 1) :
    s.outputs.pinRdO = 0 ∧ s.outputs.rptValidO = 0 ∧ s.outputs.stoppedO = 0 := by
  obtain ⟨reads, reports, stops⟩ := combinationalOutputs s
  have asserted : s.ports.rst ≠ 0 := by simp [rst]
  exact ⟨bit_ne_one.mp fun read => asserted (reads.mp read).1,
    bit_ne_one.mp fun report => asserted (reports.mp report).1,
    bit_ne_one.mp fun stop => asserted (stops.mp stop).1⟩

/-- Settles O5: the edge is `resetEdge`, which is the reset column with the next input levels. -/
theorem resetEdgeSetsEveryRegister : Obligations.ResetEdgeSetsEveryRegister :=
  fun s e rst => ⟨s.resetEdge, step_reset e rst, rfl⟩

/-- Settles O28: `outputs_reset` for the cycle; after the edge each registered output is a register of the reset column
(O5). -/
theorem resetSilencesOutputs : Obligations.ResetSilencesOutputs := by
  intro s e rst
  obtain ⟨noRead, noReport, notStopped⟩ := outputs_reset rst
  obtain ⟨t, edge, column⟩ := resetEdgeSetsEveryRegister s e rst
  refine ⟨noRead, noReport, notStopped, t, edge, ?registered⟩
  rw [column]
  exact ⟨rfl, rfl, rfl, rfl, rfl, rfl, rfl, rfl, rfl, rfl⟩

end Sys2Proof.Machine

/-! SUPPORT. The proofs of the consequences that the spec marks as derived: the occupancy of a wait state
(40_start_signal.md R115), the bound on a guarded busy-wait, the shift-accumulate law and the bit timing
(41_frame_assembly.md R135, R136, R142), the checksum as a sum (42_checksum_report.md R161), the latency of a
cancellation (60_exceptions.md R206) and the first pin read after reset (70_reset_and_hazards.md R245). -/

namespace Sys2Proof.Machine

/-! ### The occupancy of a wait state (R115) -/

/-- The pairs that R115 lists are the wait states with their successors. -/
theorem WaitPair.of_mem {wait next : Instr}
    (listed : (wait, next) ∈ [(Instr.interWait, Instr.startHi), (.startWait, .startLo), (.respWait, .presence),
      (.bitWait, .sample)]) : WaitPair wait next := by
  simp only [List.mem_cons, List.not_mem_nil, or_false, Prod.mk.injEq] at listed
  obtain ⟨rfl, rfl⟩ | ⟨rfl, rfl⟩ | ⟨rfl, rfl⟩ | ⟨rfl, rfl⟩ := listed
  · exact .interWait
  · exact .startWait
  · exact .respWait
  · exact .bitWait

/-- Settles O44: the law is the two branches of Countdown, and the occupancy is the one leg `ReachedAs.wait`. -/
theorem waitStateOccupiesItsCount : Obligations.WaitStateOccupiesItsCount := by
  intro wait next s listed
  have pair : WaitPair wait next := .of_mem listed
  refine ⟨?law, fun e code entered quiet => ?occupancy⟩
  case law =>
    split
    · next low => exact exec_wait_ends pair low
    · next more => exact exec_wait_counts pair (Nat.lt_of_not_le more)
  case occupancy =>
    obtain ⟨k, load⟩ : ∃ k, s.wcnt.toNat = k + 1 := Nat.exists_eq_add_of_le' entered
    rw [load] at quiet ⊢
    have waited := (ReachedAs.start e quiet.1).wait pair quiet code load (Nat.zero_add _).le
    rw [Nat.zero_add, List.nil_append] at waited
    obtain ⟨t, reached, chain, placed, tick, rfl⟩ := waited
    exact ⟨reached.shown, _, reached.run, rfl, rfl, rfl⟩

/-! ### The bound on a guarded busy-wait (R135) -/

/-- Under a guard of `k + 1` a busy-wait entered with `bwc = 0` counts `k` stay-samples, a leg of `ReachedAs.stay`, and
the guard fires at the next one. -/
theorem ReachedAs.guardedBusyWait {busy : Instr} {v : Bit} (stays : StaysAt busy v) {s : State} {k : Nat}
    (e : s.HasEngine) (guard : s.params.busyGuard = k + 1) (clear : s.bwc = 0) (quiet : Quiet s (k + 1))
    (code : s.st = busy.code) (level : ∀ j < k + 1, lineAt s j = v) :
    ReachedAs s (k + 1) (List.replicate (k + 1) busy)
      (State.deliver { s with bwc := s.bwc + BitVec.ofNat 32 k } (.zero .timeout)) := by
  obtain ⟨-, -, -, -, -, -, -, fits, -⟩ := e.1
  have zero : s.bwc.toNat = 0 := by simp [clear]
  have counted := (ReachedAs.start e quiet.1).stay stays quiet (k := k) code
    (fun j hj => by rw [Nat.zero_add]; exact level j (by omega)) (.inr (by omega)) (by omega)
  rw [Nat.zero_add, List.nil_append] at counted
  have count : (s.bwc + BitVec.ofNat 32 k).toNat = k := by
    rw [BitVec.toNat_add, BitVec.toNat_ofNat, zero]
    omega
  rw [List.replicate_succ']
  refine counted.cycle quiet k.lt_succ_self code ?_
  rintro _ ⟨chain, placed, tick, rfl⟩ line
  have fires : 0 < s.params.busyGuard ∧ s.params.busyGuard ≤ (s.bwc + BitVec.ofNat 32 k).toNat + 1 := by omega
  exact ⟨_, exec_stay_timesOut stays (line.trans (level k k.lt_succ_self)) fires, chain, placed, tick, rfl⟩

/-- What the spec derives of a guarded busy-wait at its stay level, for either of the two. -/
theorem guardedBusyWait_timesOut {busy : Instr} {v : Bit} (stays : StaysAt busy v) {s : State} (e : s.HasEngine)
    (guard : 0 < s.params.busyGuard) (clear : s.bwc = 0) (quiet : Quiet s s.params.busyGuard)
    (code : s.st = busy.code) (level : ∀ j < s.params.busyGuard, lineAt s j = v) :
    trace s.params.busyGuard s = List.replicate s.params.busyGuard (decodeState s.st) ∧
    readCount s.params.busyGuard s = s.params.busyGuard ∧
    ∃ t, runFor s.params.busyGuard s = .next t ∧ t.st = 0xD#4 ∧ t.rptStatus = 0b11#2 ∧
      t.rptHum = 0 ∧ t.rptTemp = 0 ∧ t.rptChk = 0 ∧ t.rptCalc = 0 ∧ t.rptChkOk = 0 := by
  obtain ⟨k, hk⟩ : ∃ k, s.params.busyGuard = k + 1 := Nat.exists_eq_add_of_le' guard
  rw [hk] at quiet level ⊢
  obtain ⟨t, reached, chain, placed, tick, rfl⟩ := ReachedAs.guardedBusyWait stays e hk clear quiet code level
  have sampling : busy ∈ samplingInstrs := by cases stays <;> decide
  have fetched : decodeState s.st = busy := (decodeState_eq_iff _ _).mpr code
  refine ⟨fetched ▸ reached.shown, ?reads, _, reached.run, rfl, rfl, rfl, rfl, rfl, rfl, rfl⟩
  case reads => rw [readCount_eq quiet, reached.shown, List.countP_replicate, if_pos (decide_eq_true sampling)]

/-- Settles O46: the two answers of BusyStay, the stay level of each busy-wait, and the bound for each of them. -/
theorem guardEndsBusyWait : Obligations.GuardEndsBusyWait := by
  refine ⟨fun s => ?answers, fun s => ⟨exec_stay .waitHi, exec_stay .waitLo⟩, fun s e guard clear quiet held => ?bound⟩
  case answers =>
    split
    · next fires => exact State.busyStay_of_guardFires fires
    · next below => exact State.busyStay_of_not_guardFires below
  case bound =>
    obtain ⟨code, high⟩ | ⟨code, low⟩ := held
    · exact guardedBusyWait_timesOut .waitHi e guard clear quiet code high
    · exact guardedBusyWait_timesOut .waitLo e guard clear quiet code low

/-! ### The shift-accumulate law (R136) -/

/-- The number that bits make, most significant first: `sum b_i * 2^(k-i)` (R136). -/
def bitsValue (bits : List Bit) : Nat :=
  ∑ i : Fin bits.length, (bits.get i).toNat * 2 ^ (bits.length - 1 - i.val)

/-- The first bit has the greatest weight. -/
theorem bitsValue_cons (b : Bit) (bits : List Bit) :
    bitsValue (b :: bits) = b.toNat * 2 ^ bits.length + bitsValue bits := by
  have weight : ∀ i : Fin bits.length, bits.length - (i.val + 1) = bits.length - 1 - i.val := fun i => by omega
  simp [bitsValue, Fin.sum_univ_succ, weight]

/-- `k` bits make a number below `2^k`. -/
theorem bitsValue_lt (bits : List Bit) : bitsValue bits < 2 ^ bits.length := by
  induction bits with
  | nil => decide
  | cons b bits ih =>
    have bit : b.toNat * 2 ^ bits.length ≤ 1 * 2 ^ bits.length := Nat.mul_le_mul_right _ (by omega)
    rw [bitsValue_cons, List.length_cons, Nat.pow_succ]
    omega

/-- Each shift doubles what the field holds and adds the bit, so the old value and each bit are doubled once for every
bit that follows. -/
theorem toNat_foldl_shiftIn {w : Nat} (acc : BitVec w) (bits : List Bit) :
    (bits.foldl shiftIn acc).toNat = (acc.toNat * 2 ^ bits.length + bitsValue bits) % 2 ^ w := by
  induction bits generalizing acc with
  | nil => simp [bitsValue, Nat.mod_eq_of_lt acc.isLt]
  | cons b bits ih =>
    calc ((b :: bits).foldl shiftIn acc).toNat
      _ = ((2 * acc.toNat + b.toNat) % 2 ^ w * 2 ^ bits.length + bitsValue bits) % 2 ^ w := by
        rw [List.foldl_cons, ih, shiftIn_eq_ofNat, BitVec.toNat_ofNat]
      _ = ((2 * acc.toNat + b.toNat) * 2 ^ bits.length + bitsValue bits) % 2 ^ w :=
        (((Nat.mod_modEq _ _).mul_right _).add_right _)
      _ = (acc.toNat * 2 ^ (b :: bits).length + bitsValue (b :: bits)) % 2 ^ w := by
        rw [bitsValue_cons, List.length_cons]
        ring_nf

/-- Settles O47: `toNat_foldl_shiftIn`; a field as wide as its bits drops the old value, and their number fits. -/
theorem shiftAccumulateLaw : Obligations.ShiftAccumulateLaw := by
  refine ⟨fun _ => toNat_foldl_shiftIn, fun W a bits full => ?_⟩
  subst full
  calc (bits.foldl shiftIn a).toNat
    _ = (a.toNat * 2 ^ bits.length + bitsValue bits) % 2 ^ bits.length := toNat_foldl_shiftIn a bits
    _ = bitsValue bits % 2 ^ bits.length := Nat.mul_add_mod_self_right ..
    _ = bitsValue bits := Nat.mod_eq_of_lt (bitsValue_lt bits)

/-! ### The bit timing (R142) -/

/-- The settle delay: a High line in WAIT_LO leads to SAMPLE after `T_BIT*U + 1` cycles, with the accumulators as they
were. -/
theorem ReachedAs.settled {s : State} {n : Nat} (e : s.HasEngine) (quiet : Quiet s n) (code : s.st = 0x9#4)
    (high : s.lineS = 1) (le : s.params.tBit * s.params.unitCycles + 1 ≤ n) :
    ReachedAs s (s.params.tBit * s.params.unitCycles + 1)
      (.waitLo :: List.replicate (s.params.tBit * s.params.unitCycles) .bitWait)
      { s with bwc := 0, wcnt := 0, st := 0xB#4 } := by
  obtain ⟨-, -, -, -, -, -, -, -, -, -, -, -, fits⟩ := e.1
  have left : ReachedAs s (0 + 1) ([] ++ [.waitLo])
      { s with bwc := 0, wcnt := (s.loadWait s.params.tBit).wcnt, st := 0xA#4 } := by
    refine (ReachedAs.start e quiet.1).cycle quiet (by omega) code ?_
    rintro _ ⟨chain, placed, tick, rfl⟩ line
    exact ⟨_, exec_waitLo_high (line.trans ((lineAt_zero e).trans high)), chain, placed, tick, rfl⟩
  have waited := left.waitUnits .bitWait quiet rfl fits rfl (by omega)
  rwa [Nat.zero_add, Nat.add_comm 1] at waited

/-- Below 32 a bit goes into the data field (10_state.md R25). -/
theorem State.afterBit_of_lt {s : State} (field : s.bidx.toNat < 32) (b : Bit) :
    (s.afterBit b).data.toNat = (2 * s.data.toNat + b.toNat) % 2 ^ 32 ∧ (s.afterBit b).chk = s.chk := by
  simp only [State.afterBit, if_pos field, shiftIn_eq_ofNat, BitVec.toNat_ofNat, and_self]

/-- From 32 on it goes into the checksum field. -/
theorem State.afterBit_of_le {s : State} (field : 32 ≤ s.bidx.toNat) (b : Bit) :
    (s.afterBit b).chk.toNat = (2 * s.chk.toNat + b.toNat) % 2 ^ 8 ∧ (s.afterBit b).data = s.data := by
  simp only [State.afterBit, if_neg (Nat.not_lt.mpr field), shiftIn_eq_ofNat, BitVec.toNat_ofNat, and_self]

/-- Settles O48: after the settle delay SAMPLE shifts in `line_s` of its cycle, by `exec_sample`. -/
theorem bitIsSampledAfterSettle : Obligations.BitIsSampledAfterSettle := by
  intro s e code high quiet
  have settled := ReachedAs.settled e quiet code high (Nat.le_succ _)
  have sampled := settled.cycle (i := .sample)
    (r' := s.afterBit (lineAt s (s.params.tBit * s.params.unitCycles + 1))) quiet (Nat.lt_succ_self _) rfl ?sample
  case sample =>
    rintro _ ⟨chain, placed, tick, rfl⟩ line
    exact ⟨_, exec_sample _, chain, placed, tick, by rw [line]; rfl⟩
  obtain ⟨t, atSample, same⟩ := settled
  have line : t.lineS = lineAt s (s.params.tBit * s.params.unitCycles + 1) :=
    (lineAt_zero atSample.engine).symm.trans (atSample.line 0)
  obtain ⟨chain, placed, tick, rfl⟩ := same
  obtain ⟨u, after, chain', placed', tick', rfl⟩ := sampled
  refine ⟨_, _, atSample.run, rfl, rfl, rfl, line, after.run, fun field => ?data, fun field => ?chk⟩
  case data =>
    rw [line]
    exact State.afterBit_of_lt field _
  case chk =>
    rw [line]
    exact State.afterBit_of_le field _

/-! ### The checksum as a sum (R161) -/

/-- The slices of a word that four bytes make are these bytes (30_encoding.md R89). -/
theorem slices_append (d3 d2 d1 d0 : Byte) :
    d3Of (d3 ++ d2 ++ d1 ++ d0) = d3 ∧ d2Of (d3 ++ d2 ++ d1 ++ d0) = d2 ∧
    d1Of (d3 ++ d2 ++ d1 ++ d0) = d1 ∧ d0Of (d3 ++ d2 ++ d1 ++ d0) = d0 := by
  unfold d3Of d2Of d1Of d0Of
  refine ⟨?d3, ?d2, ?d1, ?d0⟩
  case d3 =>
    rw [BitVec.extractLsb'_append_eq_of_le (by decide), BitVec.extractLsb'_append_eq_of_le (by decide),
      BitVec.extractLsb'_append_eq_of_le (by decide), BitVec.extractLsb'_eq_self]
  case d2 =>
    rw [BitVec.extractLsb'_append_eq_of_le (by decide), BitVec.extractLsb'_append_eq_of_le (by decide),
      BitVec.extractLsb'_append_eq_of_add_le (by decide), BitVec.extractLsb'_eq_self]
  case d1 =>
    rw [BitVec.extractLsb'_append_eq_of_le (by decide), BitVec.extractLsb'_append_eq_of_add_le (by decide),
      BitVec.extractLsb'_eq_self]
  case d0 => rw [BitVec.extractLsb'_append_eq_of_add_le (by decide), BitVec.extractLsb'_eq_self]

/-- Settles O24: the four slices of the word are its bytes, and each of the three additions wraps at 256. -/
theorem byteSumIsSumOfBytes : Obligations.ByteSumIsSumOfBytes := by
  intro d3 d2 d1 d0
  obtain ⟨b3, b2, b1, b0⟩ := slices_append d3 d2 d1 d0
  rw [byteSum, b3, b2, b1, b0]
  simp only [BitVec.toNat_add, Nat.mod_add_mod]

/-! ### Runs one after the other -/

/-- A run of `m + n` cycles is a run of `m` and, from its last state, a run of `n`. -/
theorem runFor_add {m n : Nat} {s t : State} (h : runFor m s = .next t) : runFor (m + n) s = runFor n t := by
  induction m generalizing s with
  | zero =>
    obtain rfl := Host.Outcome.next.inj h
    rw [Nat.zero_add]
  | succ m ih =>
    obtain ⟨u, hu, run⟩ := runFor_succ h
    rw [Nat.add_right_comm, runFor, hu, ← ih run]

/-- After `m` cycles the input levels are those that were `m` cycles ahead. -/
theorem runFor_portsAt {m : Nat} {s t : State} (h : runFor m s = .next t) (j : Nat) :
    t.portsAt j = s.portsAt (m + j) := by
  induction m generalizing s with
  | zero =>
    obtain rfl := Host.Outcome.next.inj h
    rw [Nat.zero_add]
  | succ m ih =>
    obtain ⟨u, hu, run⟩ := runFor_succ h
    rw [ih run, step_portsAt hu, Nat.add_right_comm]

/-- After `m` cycles without reset the rest of the run is without reset. -/
theorem NoReset.after {m n : Nat} {s t : State} (quiet : NoReset s (m + n)) (h : runFor m s = .next t) :
    NoReset t n := by
  intro j hj
  rw [runFor_portsAt h]
  exact quiet (m + j) (by omega)

/-! ### The latency of a cancellation (60_exceptions.md R206) -/

/-- Settles O35: the edge of cycle `c` is the cancellation edge (O6), whose cycle reads no pin, and CANCELLED is left by
no edge without reset (O36). -/
theorem cancellationHasZeroLatency : Obligations.CancellationHasZeroLatency := by
  intro c n s e quiet cancel
  obtain ⟨u, run, engine, -⟩ := engineNeverStops c s e
  have ports : u.ports = s.portsAt c := runFor_portsAt run 0
  have rst : u.ports.rst = 0 := by
    rw [ports]
    exact quiet c (by omega)
  obtain ⟨⟨t, edge, written⟩, noRead⟩ := cancelEdgeSuppressesStateRule u engine rst (.inr (ports ▸ cancel))
  have run' : runFor (c + 1) s = .next t := (runFor_snoc run).trans edge
  have stopped : t.st = 0xE#4 := by rw [written]
  obtain ⟨⟨v, rest, kept⟩, -⟩ := cancelledIsQuiescent n t (step_engine edge).1 (quiet.after run') stopped
  refine ⟨u, t, v, run, run', (runFor_add run').trans rest, ?_, ?_, ?_⟩
  · rw [written]
  · rw [readCount, observe_snoc run, List.countP_append, readCount]
    simp [noRead]
  · exact (SameButLatch.st kept).trans stopped

/-! ### The first pin read after reset (70_reset_and_hazards.md R245) -/

/-- How many edges from ARM an instruction is at the least: the length of the start signal up to it, 7 from PRESENCE
on, and none for CANCELLED and the reserved code, which lie outside the loop. -/
def edgesFromArm : Instr → Nat
  | .arm | .cancelled | .reservedF => 0
  | .interWait => 1
  | .startHi => 2
  | .startWait => 3
  | .startLo => 4
  | .release => 5
  | .respWait => 6
  | .presence | .waitHi | .waitLo | .bitWait | .sample | .check | .report => 7

/-- No successor of R182 skips a state of the start signal. -/
theorem edgesFromArm_successor (i : Instr) : ∀ next ∈ successors i, edgesFromArm next ≤ edgesFromArm i + 1 := by
  cases i <;> decide

/-- An edge without reset leads at most one edge further from ARM. -/
theorem edgesFromArm_step {s t : State} (rst : s.ports.rst = 0) (h : step s = .next t) :
    edgesFromArm t.fetch ≤ edgesFromArm s.fetch + 1 := by
  obtain ⟨-, rfl⟩ | ⟨-, r, effect, rfl⟩ := step_effect rst h
  · have fetched : (s.endCycle s.raiseCancel).fetch = .cancelled := decodeState_code .cancelled
    rw [fetched]
    exact Nat.zero_le _
  · obtain ⟨next, listed, code⟩ := effect.successor s.st_eq_code
    have fetched : (s.endCycle r).fetch = next := (decodeState_eq_iff _ _).mpr code
    exact fetched ▸ edgesFromArm_successor _ next listed

/-- `n` cycles without reset lead at most `n` edges further from ARM. -/
theorem edgesFromArm_runFor {n : Nat} {s t : State} (quiet : NoReset s n) (h : runFor n s = .next t) :
    edgesFromArm t.fetch ≤ edgesFromArm s.fetch + n := by
  induction n generalizing s with
  | zero =>
    obtain rfl := Host.Outcome.next.inj h
    exact le_rfl
  | succ n ih =>
    obtain ⟨u, hu, run⟩ := runFor_succ h
    have first := edgesFromArm_step quiet.now hu
    have rest := ih (quiet.later hu) run
    omega

/-- Settles O38: reset leaves the engine in ARM, and a sampling state is at least seven edges from there. -/
theorem noSampleBeforeChainIsFilled : Obligations.NoSampleBeforeChainIsFilled := by
  intro p placed k n t _ early quiet run
  obtain ⟨reads, -, -⟩ := combinationalOutputs t
  refine bit_ne_one.mp fun read => ?_
  obtain ⟨-, -, -, sampling⟩ := reads.mp read
  have far : ∀ i ∈ samplingInstrs, edgesFromArm i = 7 := by decide
  have near : edgesFromArm t.fetch ≤ edgesFromArm (decodeState Instr.arm.code) + n := edgesFromArm_runFor quiet run
  rw [decodeState_code, edgesFromArm] at near
  have reached : edgesFromArm t.fetch = 7 := far _ sampling
  omega

end Sys2Proof.Machine
